-- ==== Sys2Proof/Word.lean ====
section
/-! DEFINITION. The word types of the part: deck memory is bytes and 16-bit words (R178). -/
namespace Sys2Proof

/-- A byte of deck memory (R178). -/
abbrev Byte := BitVec 8

/-- A word of deck memory or of a register (R178, R196). -/
abbrev Word := BitVec 16

end Sys2Proof
end

