-- ==== Sys2Proof/Syntax.lean ====
section
/-! DEFINITION. The commands the block takes: one constructor of `Instr` per row of the opcode table, with
the row's operands. What an operand is and who supplies it is assumption 1 (requests and registers),
5 (`during`) and 6 (measured values). -/
namespace Sys2Proof

/-- The five positions the cam contacts can name (R2), in the order of R3. -/
inductive CamPos where
  | eject | housed | half | full | drive
  deriving DecidableEq, Repr

/-- A direction of tape motion. -/
inductive Dir where
  | forward | reverse
  deriving DecidableEq, Repr

/-- The two reels (R65). -/
inductive Reel where
  | supply | takeUp
  deriving DecidableEq, Repr

/-- The two motors that run under a lock deadline (R34). -/
inductive Motor where
  | drum | capstan
  deriving DecidableEq, Repr

/-- The four readings of the AFT discriminator (chapter 5.2). -/
inductive AftReading where
  | low | high | centre | none
  deriving DecidableEq, Repr

/-- A packet as it is sent (R100): six bytes of nine bits, bit 8 the parity bit, bits 7 to 0 the data. -/
structure Packet where
  b0 : BitVec 9
  b1 : BitVec 9
  b2 : BitVec 9
  b3 : BitVec 9
  b4 : BitVec 9
  b5 : BitVec 9
  deriving DecidableEq, Repr

/-- The commands, in the order of the opcode table. A request is a write of `post` to POST (R184);
times measured by a sensor are in microseconds. -/
inductive Instr where
  -- requests: the word written to POST
  | play (post : Word)
  | record (post : Word)
  | stop (post : Word)
  | pause (post : Word)
  | cue (post : Word)
  | review (post : Word)
  | wind (post : Word)
  | eject (post : Word)
  | locate (post : Word)
  | select (post : Word)
  | fine (post : Word)
  | scan (post : Word)
  | setClock (post : Word)
  | counterZero (post : Word)
  | trackValue (post : Word)
  | trackAuto (post : Word)
  | powerOn (post : Word)
  | powerOff (post : Word)
  | blockResetTransport (post : Word)
  | blockResetTuner (post : Word)
  | blockResetLineData (post : Word)
  | blockResetScheduler (post : Word)
  | blockResetPresenter (post : Word)
  | badKind (post : Word)
  -- registers
  | claimTake (word : Word)
  | claimGive (word : Word)
  | attentionRead
  | attentionWrite (word : Word)
  | levelWrite (word : Word)
  | identWrite (word : Word)
  | registerWriteOther (reg : BitVec 3) (single : Bool) (word : Word)
  -- parallel port: a word address, and whether the access begins while record writes are under way
  | parallelMemoryRead (addr : BitVec 13) (during : Bool)
  | parallelWordWrite (addr : BitVec 13) (data : Word) (during : Bool)
  | parallelByteWrite (addr : BitVec 13) (high : Bool) (data : Byte) (during : Bool)
  | heldAccessServed
  -- serial port: a byte address or a register number
  | memRead (addr : Word) (during : Bool)
  | memWrite (addr : Word) (data : Word) (during : Bool)
  | regRead (addr : Word)
  | regWrite (addr : Word) (data : Word)
  | status
  | serialUnknownCommand (command : Byte)
  | serialFrameCut (command : Byte) (addr : Word) (clocks : Nat) (during : Bool)
  -- mechanism
  | camMoveArrival (pos : CamPos)
  | camMoveLimit
  | reelsStill
  | stopMotionTimeout
  | cassetteSwitch (closed : Bool)
  | recordTabChange (present : Bool)
  | dewAppears
  | dewClears
  | endSensorActive
  | endSensorInactive
  | startSensorActive
  | startSensorInactive
  | reelRotationPulse (reel : Reel) (sinceUs : Nat)
  | reelStall
  | stillTimeout
  | idleTimeout
  | recordCountdownMinute
  | recordEnd
  -- servo and control track
  | drumRevolution (periodUs : Nat) (phaseUs : Int)
  | servoDeadlineExpiry (motor : Motor)
  | capstanTachPulse (dir : Dir) (periodUs : Nat)
  | capstanHeld
  | capstanReferencePeriod (inWindow : Bool)
  | controlPulse (dir : Dir) (altered : Bool) (intervalUs : Nat)
  | controlPulsesAbsent
  | autoSearchTrialEnd (envelope : Nat)
  -- tuner
  | synthLock (sync : Bool)
  | synthLockLoss
  | lockLimitExpiry
  | syncPresent
  | syncAbsent
  | aftReading (reading : AftReading)
  | scanDwellExpiry
  | scanCodeTimeout
  -- line data
  | stationPacket (p : Packet)
  | timePacket (p : Packet)
  | labelFirst (p : Packet)
  | labelLast (p : Packet)
  | labelOtherFragment (p : Packet)
  | unassignedPacket (p : Packet)
  | missWindowExpiry
  -- clock and scheduler
  | secondComplete
  | seekLimitExpiry
  | occurrenceStart (entry : Fin 16)
  | windowEnd (entry : Fin 16)
  | endOfLabelTimeout (entry : Fin 16)
  | budgetHoldOffExpiry (entry : Fin 16)
  -- power
  | settleExpiry
  | mainsFailWarning (batteryLow : Bool)
  | batteryLow
  | mainsReturn (strap0 strap1 : Bool)
  | resetLineAssert
  | resetLineRelease (strap0 strap1 : Bool)
  -- attention
  | throttleExpiry
  | statusGateExpiry (group : Fin 7)
  deriving DecidableEq, Repr

end Sys2Proof
end

