-- ==== Sys2Proof/Decode.lean ====
section
/-! DEFINITION. The words that spell commands: the opcode table gives no row any bits, so no word of the table spells
one. The 40 bits of a serial frame spell a command by R198, the pins of the parallel port one by R197. -/
namespace Sys2Proof

/-- No row of the opcode table gives bits. -/
def decodeTableWord (_nbits _w : Nat) : Option Instr := none

/-- R198: the command code of a serial frame, its first eight bits. -/
def frameCommand (frame : BitVec 40) : Byte := frame.extractLsb' 32 8

/-- R198: the address or register number of a serial frame, the sixteen bits that follow. -/
def frameAddress (frame : BitVec 40) : Word := frame.extractLsb' 16 16

/-- R198: the data of a serial frame, its last sixteen bits. -/
def frameData (frame : BitVec 40) : Word := frame.extractLsb' 0 16

/-- R198: the command that a complete serial frame spells, the bit clocked first its most significant. `during`: it
begins while record writes are under way (log 5). -/
def serialFrame (frame : BitVec 40) (during : Bool) : Instr :=
  match (frameCommand frame).toNat with
  | 1 => .memRead (frameAddress frame) during
  | 2 => .memWrite (frameAddress frame) (frameData frame) during
  | 3 => .regRead (frameAddress frame)
  | 4 => .regWrite (frameAddress frame) (frameData frame)
  | 5 => .status
  | _ => .serialUnknownCommand (frameCommand frame)

/-- R198: the command that the bits of a serial frame spell when select falls after `clocks` of them. -/
def serialBits (frame : BitVec 40) (clocks : Nat) (during : Bool) : Instr :=
  if 40 ≤ clocks then serialFrame frame during
  else .serialFrameCut (frameCommand frame) (frameAddress frame) clocks during

/-- R198: the 40 bits of a frame with the three fields. -/
def frameOf (command : Byte) (addr data : Word) : BitVec 40 := command ++ addr ++ data

/-- R198: the frame that spells a command of the serial port; the fields that a command leaves out are 0. -/
def Instr.frame? : Instr → Option (BitVec 40)
  | .memRead addr _ => some (frameOf 1 addr 0)
  | .memWrite addr data _ => some (frameOf 2 addr data)
  | .regRead addr => some (frameOf 3 addr 0)
  | .regWrite addr data => some (frameOf 4 addr data)
  | .status => some (frameOf 5 0 0)
  | .serialUnknownCommand command => some (frameOf command 0 0)
  | _ => none

/-! ### The parallel port's pins (R197) -/

/-- R197: what the parallel port's pins show in one bus cycle; `true` is asserted. The data lines carry the word
written. -/
structure ParallelPins where
  chipEnable : Bool
  registerSelect : Bool
  addr : BitVec 13
  outputEnable : Bool
  writeHigh : Bool
  writeLow : Bool
  data : Word
  deriving DecidableEq, Repr

/-- R197: the accesses that the strobes can pick: a read, a word write, a write of the high or the low byte. -/
inductive Strobe
  | read | writeWord | writeByte (high : Bool)
  deriving DecidableEq, Repr

/-- R197: the strobe table; none is "any other combination", and what comes without chip enable. -/
def ParallelPins.strobe (p : ParallelPins) : Option Strobe :=
  if !p.chipEnable then none
  else
    match p.outputEnable, p.writeHigh, p.writeLow with
    | true, false, false => some .read
    | false, true, true => some .writeWord
    | false, true, false => some (.writeByte true)
    | false, false, true => some (.writeByte false)
    | _, _, _ => none

/-- R197: the register number, the low three address lines. -/
def ParallelPins.register (p : ParallelPins) : BitVec 3 := p.addr.setWidth 3

/-- R197: the byte that a byte write takes from the data lines. -/
def ParallelPins.byte (p : ParallelPins) (high : Bool) : Byte :=
  if high then p.data.extractLsb' 8 8 else p.data.extractLsb' 0 8

/-- R197: the access to deck memory that a cycle makes. -/
def ParallelPins.memoryCycle (p : ParallelPins) (during : Bool) : Strobe → Instr
  | .read => .parallelMemoryRead p.addr during
  | .writeWord => .parallelWordWrite p.addr p.data during
  | .writeByte high => .parallelByteWrite p.addr high (p.byte high) during

/-- R196, R197: the register access that a cycle makes. A read of ATTENTION has a row of its own in the table; the
other registers are read and written by the rows of the register access (DESIGN CHOICE, log 73). -/
def ParallelPins.registerCycle (p : ParallelPins) : Strobe → Instr
  | .read => if p.register = 3 then .attentionRead else .regRead (p.register.setWidth 16)
  | .writeWord => .regWrite (p.register.setWidth 16) p.data
  | .writeByte _ => .registerWriteOther p.register true p.data

/-- R197: the command that one bus cycle of the parallel port spells, if any. `during`: it begins while record writes
are under way (log 5). -/
def ParallelPins.cycle (p : ParallelPins) (during : Bool) : Option Instr :=
  p.strobe.map (if p.registerSelect then p.registerCycle else p.memoryCycle during)

end Sys2Proof
end

