-- ==== Sys2Proof/Config.lean ====
section
/-! DEFINITION. The constants of the part: the time base and every limit in its cycles, the ranges, and
the address map of deck memory (R178, 11.5). The free values are what the free storage holds after a loss of
retention (R178, log 8) and what a serial read above deck memory returns (R198, log 9). -/
namespace Sys2Proof.Config

/-- Cycles of the time base in one second (R112). -/
def hz : Nat := 32768

/-- A limit of `ms` milliseconds in cycles, rounded up to a whole cycle (DESIGN CHOICE, log 4). -/
def msCycles (ms : Nat) : Nat := (ms * hz + 999) / 1000

/-- R4: a cam move must arrive within 2.5 s. -/
def camLimit : Nat := msCycles 2500
/-- R6: the stop-motion stage is complete 2.0 s after the stop at the latest. -/
def stopMotionLimit : Nat := msCycles 2000
/-- R19: no rotation of the receiving reel for 2.0 s. -/
def stallLimit : Nat := msCycles 2000
/-- R22: the still timer, 5 minutes. -/
def stillLimit : Nat := 300 * hz
/-- R23: the idle timer, 3 minutes. -/
def idleLimit : Nat := 180 * hz
/-- R34: DRUM_LOCK and DRUM_RELOCK. -/
def drumDeadline : Nat := msCycles 3000
/-- R34: CAPSTAN_LOCK, CAPSTAN_HOLD and CAPSTAN_RELOCK. -/
def capstanDeadline : Nat := msCycles 1500
/-- R32: held when no tachometer pulse has come for 40 ms. -/
def holdQuiet : Nat := msCycles 40
/-- R38: control pulses are absent after 1.0 s. -/
def pulsesAbsent : Nat := msCycles 1000
/-- R79: the lock limit. -/
def lockLimit : Nat := msCycles 100
/-- R93: a scan step's dwell. -/
def scanDwell : Nat := msCycles 40
/-- R94: the wait for a station code. -/
def scanCode : Nat := msCycles 2000
/-- R107: the miss window. -/
def missWindow : Nat := msCycles 1000
/-- R122: the limit of a clock seek. -/
def seekLimit : Nat := 120 * hz
/-- R151: the end-of-label timer. -/
def endOfLabel : Nat := 30 * hz
/-- R157: the budget hold-off. -/
def budgetHoldOff : Nat := 120 * hz
/-- R169: the settle of the mechanism supply. -/
def settle : Nat := msCycles 200
/-- R199: a STATUS gate closes for 1 s. -/
def statusGate : Nat := msCycles 1000

/-- R112: uptime holds here. -/
def uptimeMax : Nat := 4294967295
/-- The last day number, 2079-12-31 (8.1). -/
def lastDay : Nat := 36524
/-- R46: the counter's limit. -/
def counterMax : Int := 899999
/-- R77: the divisor's limits. -/
def divMin : Nat := 1343
def divMax : Nat := 14382
/-- R93: the step of the scan's grid. -/
def scanStep : Nat := 16
/-- R70: the circumference of an empty hub. -/
def hubCircumference : Nat := 1360

/-- R178: the size of deck memory in bytes. -/
def memBytes : Nat := 16384
/-- R178 and 11.5: where the regions and the records lie. -/
def settingsBase : Nat := 0x0000
def slotBase (n : Nat) : Nat := 0x0100 + 32 * n
def entryBase (n : Nat) : Nat := 0x0300 + 32 * n
def presetBase (p : Nat) : Nat := 0x0500 + 16 * (p - 1)
def tapeMapBase : Nat := 0x0900
def labelContextBase : Nat := 0x09C0
def runRecordBase (n : Nat) : Nat := 0x0A00 + 32 * n

/-- 11.5: the base and length of each status group. -/
def groupSpan : Nat → Nat × Nat
  | 0 => (0x0040, 16)
  | 1 => (0x0050, 64)
  | 2 => (0x0090, 32)
  | 3 => (0x00B0, 16)
  | 4 => (0x00C0, 16)
  | 5 => (0x00D0, 16)
  | _ => (0x00E0, 32)

/-- R178: what a byte of the free storage holds after the `k`-th loss of retention: a free value, of which
nothing is known (log 8). -/
opaque freeByte (k : Nat) (a : Nat) : Byte

/-- R178, R198: the word that the `k`-th serial read of an address above deck memory returns: a free value, of
which nothing is known (log 9). -/
opaque freeWord (k : Nat) : Word

end Sys2Proof.Config
end

