-- ==== Sys2Proof/Machine/State.lean ====
section
/-! DEFINITION. The state of the part, block by block, as plain data, with the values after the cold
start that `State.reset` stands for (R29, R45, R64, R75, R98, R111, R125, R142, R176, R195, R202 and
log 7). Each field's rule is the one its line names; INVENTORY.md lists them all. -/
namespace Sys2Proof.Machine

/-! ### The mechanism's sensors -/

/-- Where the cam stands. The contacts name a position or read BETWEEN (R2); the model keeps the
position below, since R28 and R29 depend on it (DESIGN CHOICE, log 23). -/
inductive CamAt where
  | at (pos : CamPos)
  | between (below : CamPos)
  deriving DecidableEq, Repr

/-- What the mechanism's sensors report (R2, R15 to R18). -/
structure Sensors where
  cam : CamAt
  switchClosed : Bool
  tabPresent : Bool
  startActive : Bool
  endActive : Bool
  dew : Bool
  deriving DecidableEq, Repr

/-! ### Transport controller (chapter 1) -/

/-- The fifteen transport modes (R1). -/
inductive Mode where
  | empty | loaded | threading | stopped | playing | recording | cue | review | still
  | recordPause | windFwd | windRev | unthreading | ejecting | faultHold
  deriving DecidableEq, Repr

/-- The recording owner (R24). -/
inductive RecOwner where
  | none
  | manual
  | program (entry : Fin 16)
  deriving DecidableEq, Repr

/-- The transport's fault code (R4, R19, R20). -/
inductive FaultCode where
  | none | mechJam | reelStall | servoFail
  deriving DecidableEq, Repr

/-- The three tape speeds. -/
inductive Speed where
  | standard | long | extended
  deriving DecidableEq, Repr

/-- A cam move under way: its target, whether it goes up, and the expiry of its limit (R3, R4). -/
structure CamMove where
  target : CamPos
  up : Bool
  limit : Nat
  deriving DecidableEq, Repr

/-- What a path leads to: the targets of R6, the scheduler's orders of R27 and the part's own moves. -/
inductive Goal where
  /-- PLAY (R8). -/
  | play
  /-- RECORD by the host (R9). -/
  | record (speed : Speed) (minutes : Nat)
  /-- PAUSE taken in RECORD_PAUSE (R11). -/
  | resume
  /-- STOP (R10); `here`: it finishes at the position the move under way reaches. -/
  | stop (here : Bool)
  /-- STILL, for PAUSE and TAKE (R11, R27). -/
  | still
  /-- PAUSE taken in RECORDING (R11). -/
  | recPause
  /-- CUE (forward) and REVIEW (reverse) (R12). -/
  | search (dir : Dir)
  /-- WIND (R13). -/
  | wind (dir : Dir)
  /-- EJECT (R14). -/
  | eject
  /-- The search leg of a LOCATE, its direction decided at stage 4 (R61). -/
  | locateSearch
  /-- Unthreading to LOADED (R17, R23, R26). -/
  | unthread
  /-- STOP's path and then the unthreading (R26). -/
  | powerDown
  /-- The move to rest of a start or a block reset (R21, R29). -/
  | rest
  /-- Housing the cassette (R15). -/
  | house
  /-- The scheduler's RECORD order (R27). -/
  | progRecord (entry : Fin 16) (speed : Speed) (newStart : Bool)
  /-- The scheduler's HOLD order (R27). -/
  | progHold (entry : Fin 16)
  /-- The scheduler's SPEED order, as far as the capstan's hold (R27, R35). -/
  | progSpeed (entry : Fin 16) (speed : Speed)
  deriving DecidableEq, Repr

/-- How far a path has come: waiting for a cam move already under way (R7), then the stages of R6. -/
inductive Stage where
  | waitMove | stopping | cam | drive | driving
  deriving DecidableEq, Repr

/-- The path being carried out. `houseFirst`: a housing move comes first (R14, R15). `order`: it
carries out an order of the scheduler (R27). -/
structure Path where
  goal : Goal
  stage : Stage
  houseFirst : Bool
  order : Bool
  deriving DecidableEq, Repr

/-- The record countdown: minutes left and when the next minute ends (R25). -/
structure Countdown where
  minutes : Nat
  nextAt : Nat
  deriving DecidableEq, Repr

/-- The scheduler's orders that take time (R27). -/
inductive Order where
  | take (entry : Fin 16)
  | record (entry : Fin 16) (speed : Speed) (newStart : Bool)
  | hold (entry : Fin 16)
  | speed (entry : Fin 16) (speed : Speed)
  deriving DecidableEq, Repr

/-- The transport controller's state (chapter 1 table, and the pinch of R1). The in-flight request is the
TRANSPORT lane. -/
structure Transport where
  mode : Mode
  pinch : Bool
  camMove : Option CamMove
  path : Option Path
  owner : RecOwner
  control : Option (Fin 16)
  countdown : Option Countdown
  still : Option Nat
  idle : Option Nat
  stall : Option Nat
  stopLimit : Option Nat
  fault : FaultCode
  switchArmed : Bool
  order : Option Order
  deriving DecidableEq, Repr

/-! ### Servo (chapter 2) -/

/-- R30. -/
inductive DrumState where
  | off | spinningUp | speedLocked | phaseLocked
  deriving DecidableEq, Repr

/-- R31. -/
inductive DrumRef where
  | internal | sync
  deriving DecidableEq, Repr

/-- R32. -/
inductive CapState where
  | off | speed | phase | stoppedHeld
  deriving DecidableEq, Repr

/-- R32: the five targets, and none. -/
inductive CapTarget where
  | none
  | play
  | record (speed : Speed)
  | search (dir : Dir)
  | hold
  deriving DecidableEq, Repr

/-- R33: what PHASE is held against. -/
inductive CapRef where
  | none | control | recordRef | internal
  deriving DecidableEq, Repr

/-- R34: the five deadline kinds. -/
inductive DeadlineKind where
  | drumLock | drumRelock | capstanLock | capstanHold | capstanRelock
  deriving DecidableEq, Repr

/-- A running lock deadline (R34). -/
structure Deadline where
  kind : DeadlineKind
  expiry : Nat
  deriving DecidableEq, Repr

/-- Speed detection (R36, R37): FULL with the class and length of the current run, CONFIRM with the
runs of matching and mismatched intervals. -/
inductive Detection where
  | none
  | full (cls : Option Speed) (run : Nat)
  | confirm (matching : Nat) (mismatched : Nat)
  deriving DecidableEq, Repr

/-- The drum's runs of successive revolutions (R30). -/
structure DrumRuns where
  bandIn : Nat
  bandOut : Nat
  phaseIn : Nat
  phaseOut : Nat
  deriving DecidableEq, Repr

/-- An auto search under way (R43): the offset in force when it began, the best offset and envelope so
far (none before the first trial has ended), and the trial offset. -/
structure SearchCtx where
  start : Int
  best : Option (Int × Nat)
  trial : Int
  deriving DecidableEq, Repr

/-- The fine stage: the neighbour above is tried, then the one below, then steps in one direction. -/
inductive FineStage where
  | above
  | below (aboveEnv : Nat)
  | stepping (up : Bool) (steps : Nat)
  deriving DecidableEq, Repr

/-- The auto search (R43, R44). -/
inductive AutoSearch where
  | idle
  | pending
  | coarse (ctx : SearchCtx)
  | fine (ctx : SearchCtx) (coarseBest : Int) (stage : FineStage)
  deriving DecidableEq, Repr

/-- R41. -/
inductive ReelDrive where
  | off | forward | reverse
  deriving DecidableEq, Repr

/-- The servo's state (chapter 2 table). -/
structure Servo where
  drum : DrumState
  drumRuns : DrumRuns
  drumLocked : Bool
  drumRef : DrumRef
  drumDeadline : Option Deadline
  cap : CapState
  capTarget : CapTarget
  capRef : CapRef
  capReached : Bool
  capIn : Nat
  capOut : Nat
  capDeadline : Option Deadline
  searchSpeed : Speed
  searchRun : Nat
  holdAt : Option Nat
  detection : Detection
  mismatchRun : Nat
  blankMatch : Nat
  blankMismatch : Nat
  absentAt : Option Nat
  blank : Bool
  recSpeed : Speed
  playSpeed : Speed
  defaultSpeed : Speed
  reel : ReelDrive
  reelReached : Bool
  tracking : Int
  auto : AutoSearch
  lastFail : Option DeadlineKind
  deriving DecidableEq, Repr

/-! ### Position unit (chapter 3) -/

/-- R47 to R49. -/
inductive CounterSource where
  | read | estimated | held
  deriving DecidableEq, Repr

/-- R50: the mark writer; `count` altered frames written, `program` the entry the start was reported
with, `mark` the map entry made for the mark (none when the full map took none). -/
inductive MarkWriter where
  | idle
  | writing (count : Nat) (program : Option (Fin 16)) (mark : Option Int)
  deriving DecidableEq, Repr

/-- R52: a run of altered pulses; `afterLocate`: it began after the in-flight LOCATE was taken. -/
structure MarkRun where
  dir : Dir
  length : Nat
  lowest : Int
  afterLocate : Bool
  deriving DecidableEq, Repr

/-- R53. -/
inductive Origin where
  | written | seen
  deriving DecidableEq, Repr

/-- R53: a tape map entry. -/
structure MapEntry where
  position : Int
  origin : Origin
  program : Option (Fin 16)
  deriving DecidableEq, Repr

/-- R59: the target kinds. -/
inductive LocateKind where
  | counter | map | marks
  deriving DecidableEq, Repr

/-- R60 to R62: the leg of a LOCATE. -/
inductive Leg where
  | wind (dir : Dir)
  | search
  deriving DecidableEq, Repr

/-- The locate context (R59). -/
structure Locate where
  kind : LocateKind
  target : Option Int
  wanted : Nat
  met : Nat
  leg : Leg
  thenPlay : Bool
  deriving DecidableEq, Repr

/-- The position unit's state (chapter 3 table). -/
structure Position where
  counter : Int
  source : CounterSource
  gap : Nat
  gapStopped : Bool
  residue : Nat
  residueDir : Dir
  windResidue : Nat
  pulseSinceRev : Bool
  writer : MarkWriter
  segment : Option Int
  detector : Option MarkRun
  map : List MapEntry
  mapFull : Bool
  locate : Option Locate
  deriving DecidableEq, Repr

/-! ### Remaining calculator (chapter 4) -/

/-- R65: an open reel revolution; the opening phase is `phaseNum / phaseDen`, in 0..1. -/
structure Revolution where
  dir : Dir
  phaseNum : Nat
  phaseDen : Nat
  count : Nat
  deriving DecidableEq, Repr

/-- R67: a valid measurement with its speed factor. -/
structure Measure where
  value : Nat
  factor : Nat
  deriving DecidableEq, Repr

/-- R70. -/
inductive LastResult where
  | none | value | inconclusive
  deriving DecidableEq, Repr

/-- The remaining calculator's state (chapter 4 table). `interval` is the last complete control-pulse
interval in microseconds, `run` the pulses of the current run, held at 2 (R66). -/
structure Remaining where
  interval : Nat
  run : Nat
  runDir : Dir
  supply : Option Revolution
  takeUp : Option Revolution
  ks : Option Measure
  ku : Option Measure
  fraction : Option Nat
  rS : Option Nat
  rL : Option Nat
  rE : Option Nat
  last : LastResult
  mInUse : Nat
  deriving DecidableEq, Repr

/-! ### Tuner (chapter 5) -/

/-- R85. -/
inductive TunerOwner where
  | none | view | record | scan | seek
  deriving DecidableEq, Repr

/-- R86. -/
inductive RecHolder where
  | manual
  | program (entry : Fin 16)
  deriving DecidableEq, Repr

/-- R84: NONE, a preset 1..64 or a direct divisor. -/
inductive Selection where
  | none
  | preset (p : Nat)
  | direct (divisor : Nat)
  deriving DecidableEq, Repr

/-- R78: the tuned base, with the preset (0 for none) and the AFT flag the tune was made with. -/
structure TunedBase where
  divisor : Nat
  fine : Int
  preset : Nat
  aft : Bool
  deriving DecidableEq, Repr

/-- R81, R82. -/
inductive AftState where
  | off | running | ok | fail
  deriving DecidableEq, Repr

/-- R77. -/
inductive Band where
  | low | mid | high
  deriving DecidableEq, Repr

/-- R79, R80. -/
inductive Signal where
  | unpowered | acquiring | noLock | locked | sync
  deriving DecidableEq, Repr

/-- R93, R94. -/
inductive ScanPhase where
  | dwell | aft | codeWait
  deriving DecidableEq, Repr

/-- The scan context (R92 to R94): `limit` is the expiry of the dwell or of the code wait, `code` the
first station code reported since the step's tune. -/
structure Scan where
  replace : Bool
  step : Nat
  phase : ScanPhase
  limit : Option Nat
  centred : Nat
  code : Option Nat
  stored : Nat
  deriving DecidableEq, Repr

/-- The tuner's state (chapter 5 table). The in-flight request is the TUNER lane. `fineStored` is the
result R91 gives an in-flight FINE. -/
structure Tuner where
  owner : TunerOwner
  holder : RecHolder
  selection : Selection
  lastDivisor : Nat
  base : Option TunedBase
  correction : Int
  aft : AftState
  readings : Nat
  aftReady : Bool
  band : Band
  lockLimit : Option Nat
  signal : Signal
  stationCode : Nat
  scan : Option Scan
  seek : Option Nat
  fineStored : Bool
  deriving DecidableEq, Repr

/-! ### Line-data decoder (chapter 6) -/

/-- R102. -/
inductive LabelStatus where
  | notRunning | running | interrupted
  deriving DecidableEq, Repr

/-- A complete label record (R102); duration 0 stands for none. -/
structure LabelRecord where
  code : Nat
  day : Nat
  month : Nat
  hour : Nat
  minute : Nat
  status : LabelStatus
  duration : Nat
  category : Nat
  deriving DecidableEq, Repr

/-- R101: a pending FIRST fragment. -/
structure PendingRecord where
  sequence : Nat
  payload : BitVec 40
  deriving DecidableEq, Repr

/-- The decoder's state (chapter 6 table). -/
structure Decoder where
  powered : Bool
  pendingRec : Option PendingRecord
  errors : Nat
  code : Nat
  current : Option LabelRecord
  miss : Nat
  lost : Bool
  window : Option Nat
  deriving DecidableEq, Repr

/-! ### Clock (chapter 7) -/

/-- R115. -/
inductive ClockState where
  | unset | host | broadcast
  deriving DecidableEq, Repr

/-- A date and time with its phase: day number from 1980-01-01, second of the day, cycles (R112). -/
structure Calendar where
  day : Nat
  sec : Nat
  phase : Nat
  deriving DecidableEq, Repr

/-- R117: a candidate's local date-time in seconds from 1980-01-01 00:00:00 and its stamp in cycles. -/
structure Candidate where
  local_ : Int
  stamp : Nat
  deriving DecidableEq, Repr

/-- R122: a running seek. -/
structure Seek where
  preset : Nat
  expiry : Nat
  deriving DecidableEq, Repr

/-- The clock's state (chapter 7 table). -/
structure Clock where
  calendar : Calendar
  running : Bool
  state : ClockState
  window : List Candidate
  implausible : Nat
  suspended : Bool
  autoSet : Bool
  seekHour : Nat
  timePreset : Nat
  seek : Option Seek
  lastSeek : Option Nat
  deriving DecidableEq, Repr

/-! ### Scheduler (chapters 8 and 9) -/

/-- R128, in the order of its table. -/
inductive EntryState where
  | unused | disabled | invalid | armed | preroll | pending | waitingLabel | recording
  | labelPaused | interrupted | done
  deriving DecidableEq, Repr

/-- R130. -/
inductive InvalidReason where
  | none | badTime | badDate | emptyPreset | past | zeroLength
  deriving DecidableEq, Repr

/-- R134. -/
inductive Repetition where
  | once | daily | weekdays | weekly
  deriving DecidableEq, Repr

/-- An entry's configuration fields as read (R126); `day` is the day of the month or the weekday. -/
structure ProgCfg where
  program : Bool
  enable : Bool
  autoSpeed : Bool
  labelControl : Bool
  repetition : Repetition
  speedCode : Nat
  preset : Nat
  year : Nat
  month : Nat
  day : Nat
  startHour : Nat
  startMinute : Nat
  stopHour : Nat
  stopMinute : Nat
  deriving DecidableEq, Repr

/-- A next start: day number and minute of the day (8.1). -/
structure NextStart where
  day : Nat
  minute : Nat
  deriving DecidableEq, Repr

/-- The outcome record as its bytes 13 and 20 to 31 hold it (R139, 8.1). -/
structure OutcomeRec where
  code : Byte
  date : Word
  actual : Word
  minutes : Word
  late : Word
  flags : Byte
  counter : BitVec 24
  deriving DecidableEq, Repr

/-- The part-owned fields of an entry (R127). -/
structure Owned where
  state : EntryState
  invalid : InvalidReason
  next : Option NextStart
  lastClosed : Option Nat
  outcome : OutcomeRec
  deriving DecidableEq, Repr

/-- Chapter 9 table. -/
inductive Role where
  | holder | waiter
  deriving DecidableEq, Repr

/-- R144 to R146: why an occurrence has not recorded yet. -/
inductive MissCause where
  | none | noTape | writeProtect | dew | tapeFull | busy | fault | power | label | clockStep
  deriving DecidableEq, Repr

/-- R164: why a recording ended. -/
inductive EndCause where
  | none | window | labelEnd | tapeEnd | host | fault | power
  deriving DecidableEq, Repr

/-- A run copy (R131 and the chapter 9 table). The order in flight is the transport's. `startTaken` and
`windowTaken`: the events at T = 0 and at the window end have been taken (R143). -/
structure RunCopy where
  cfg : ProgCfg
  occDay : Nat
  duration : Nat
  preset : Nat
  labelControl : Bool
  autoSpeed : Bool
  anchorUptime : Nat
  anchorT : Int
  role : Role
  labelMode : Bool
  matched : Bool
  labelStart : Option Int
  lastLabel : Option LabelRecord
  lostSeen : Bool
  endTimer : Option Nat
  miss : MissCause
  newStart : Bool
  speed : Speed
  holdOff : Option Nat
  endCause : EndCause
  powerGap : Bool
  seconds : Nat
  segments : Nat
  actual : Option Nat
  counterAt : Option Int
  late : Nat
  changes : Nat
  startTaken : Bool
  windowTaken : Bool
  deriving DecidableEq, Repr

/-- One program entry as the scheduler holds it. -/
structure Entry where
  copy : ProgCfg
  owned : Owned
  run : Option RunCopy
  deriving DecidableEq, Repr

/-- The scheduler's state (chapter 8 table). -/
structure Scheduler where
  entries : Vector Entry 16
  due : List (Fin 16)
  clockHanded : ClockState
  deriving DecidableEq, Repr

/-! ### Power controller (chapter 10) -/

/-- R166. -/
inductive PowerState where
  | active | quiet | retain
  deriving DecidableEq, Repr

/-- R169. -/
inductive Supply where
  | off | settling | ready
  deriving DecidableEq, Repr

/-- R170. -/
inductive WakeReason where
  | none | hostOn | programPreroll | cassetteIn | transportRequest | mainsReturn
  deriving DecidableEq, Repr

/-- R175. -/
inductive StartKind where
  | cold | warm | line
  deriving DecidableEq, Repr

/-- The power controller's state (chapter 10 table). -/
structure Power where
  state : PowerState
  transportNeed : Bool
  schedulerNeed : Bool
  hostNeed : Bool
  supply : Supply
  settle : Option Nat
  wake : WakeReason
  mainsPresent : Bool
  retentionLost : Bool
  lostLatch : Bool
  lineSeen : Bool
  lineAsserted : Bool
  startKind : StartKind
  deriving DecidableEq, Repr

/-! ### Request unit and claim unit (chapter 11) -/

/-- A request as copied at its POST (R184): kind code and twelve argument bytes. -/
structure Request where
  kind : Nat
  args : List Byte
  deriving DecidableEq, Repr

/-- The request unit's state: the slot records and the two lanes (R187). -/
structure Requests where
  slots : Vector (Option Request) 16
  transportLane : Option (Fin 16)
  tunerLane : Option (Fin 16)
  deriving DecidableEq, Repr

/-- 11.5: the outcomes of a request (R186). -/
inductive ReqOutcome where
  | done | refused | failed | superseded
  deriving DecidableEq, Repr

/-- 11.5: the reason codes. -/
inductive Reason where
  | none | noCassette | writeProtect | dew | timerActive | recording | tunerHeld | sectionHeld
  | faultHold | emptyPreset | badArgument | atEnd | atStart | mechJam | servoFail | reelStall
  | preempted | badKind
  deriving DecidableEq, Repr

/-- The three sections (R191). -/
inductive Section where
  | programs | presets | settings
  deriving DecidableEq, Repr

/-- One hold per section (R191). -/
structure Holds where
  programs : Bool
  presets : Bool
  settings : Bool
  deriving DecidableEq, Repr

/-- The claim unit's state (R191 to R194). -/
structure Claims where
  host : Holds
  engine : Holds
  deriving DecidableEq, Repr

/-! ### Port interface, attention presenter, indicator driver (chapter 12) -/

/-- R196. -/
inductive PortMode where
  | parallel | serial
  deriving DecidableEq, Repr

/-- R197: a parallel access to deck memory; `addr` is the byte address of the word. -/
inductive Access where
  | read (addr : Nat)
  | writeWord (addr : Nat) (data : Word)
  | writeByte (addr : Nat) (high : Bool) (data : Byte)
  deriving DecidableEq, Repr

/-- R198: a pending serial access; `write` is the data of a MEM_WRITE, `served` the data of an access
that has been served (0 for a write). -/
structure SerialAccess where
  addr : Nat
  write : Option Word
  served : Option Word
  deriving DecidableEq, Repr

/-- R198: the fields the part returned in a frame. -/
structure Reply where
  lastCommand : Byte
  ready : Bool
  data : Word
  deriving DecidableEq, Repr

/-- The port interface's state. `dataOut` is the word the last served read returned, `reply` the fields
of the last serial frame. -/
structure Port where
  mode : PortMode
  selector : Bool
  postEcho : Word
  held : Option Access
  serial : Option SerialAccess
  lastCommand : Byte
  dataOut : Option Word
  reply : Option Reply
  deriving DecidableEq, Repr

/-- R196, R199: the kinds of cause. -/
inductive CauseKind where
  | fault | power | program | transport | request | claim | clock | tuner | port | status
  deriving DecidableEq, Repr

/-- R199: a cause. -/
structure Cause where
  kind : CauseKind
  detail : Nat
  deriving DecidableEq, Repr

/-- R199: a STATUS gate. -/
inductive Gate where
  | opened
  | closed (expiry : Nat) (deferred : Bool)
  deriving DecidableEq, Repr

/-- The presenter's state; `pending` is the set, kept in order of level and detail. -/
structure Presenter where
  pending : List Cause
  cl : BitVec 4
  throttle : Option Nat
  interval : Nat
  gates : Vector Gate 7
  deriving DecidableEq, Repr

/-- R201: the eleven indicator sources, in the order of 11.5. -/
inductive Lamp where
  | off | on | recording | timerArmed | timerNoTape | cassette | locked | label | clockUnset
  | fault | powerActive
  deriving DecidableEq, Repr

/-! ### The model's own -/

/-- A signal one block hands another inside an event (log 21): the reports of the transport, the tuner
and the decoder to the scheduler, and the tests the scheduler makes at the end of its operations. -/
inductive Note where
  | tick
  | step (old new : Nat)
  | notice
  | seekTest
  | labelRecord (r : LabelRecord) (lost : Bool)
  | labelLost (r : Option LabelRecord)
  | labelCleared
  | figure
  | poke
  | clockSet
  | prerollTest
  | prerollOnTime
  | manualLeft
  | start (entry : Fin 16)
  | windowEnd (entry : Fin 16)
  | emptyPreset (entry : Fin 16)
  | takeDone (entry : Fin 16)
  | recordEntered (entry : Fin 16) (newStart : Bool)
  | pauseEntered (entry : Fin 16)
  | tapeEnd (entry : Fin 16)
  | atEnd (entry : Fin 16)
  | hostStop (entry : Fin 16)
  | servoFault (entry : Fin 16)
  | jam (entry : Fin 16)
  | dew (entry : Fin 16)
  deriving DecidableEq, Repr

/-- What an event still has to do: the signals between blocks, the records to rewrite although unchanged
(status groups 0 to 6, 7 the tape map, 8 the label context record), whether the CLOCK group asks for its
cause, and the record writes of the event, the latest first. Empty between events. -/
structure Scratch where
  notes : List Note
  touched : List Nat
  askClock : Bool
  writes : List (Nat × List Byte)
  deriving DecidableEq, Repr

/-- Deck memory: the bytes that differ from what an unlisted address reads as, by rising address. -/
abbrev Memory := List Host.Cell

/-- The whole state of the part, with the queue of commands waiting. `losses` counts the cold starts after
the first: the free value of the free storage is drawn at it (log 8). `draws` counts the serial reads above deck
memory, whose free values are drawn at it (log 9). -/
structure State where
  sensors : Sensors
  transport : Transport
  servo : Servo
  position : Position
  remaining : Remaining
  tuner : Tuner
  decoder : Decoder
  clock : Clock
  scheduler : Scheduler
  power : Power
  requests : Requests
  claims : Claims
  port : Port
  presenter : Presenter
  lamps : Vector Lamp 4
  mem : Memory
  losses : Nat
  draws : Nat
  interlock : List (Nat × Nat)
  timeBase : Nat
  scratch : Scratch
  pending : List Instr
  deriving DecidableEq, Repr

/-- Why a step stops with a fault: for no reason, since every command has an effect in every state. -/
inductive Fault where
  deriving DecidableEq, Repr

/-- Why a command has no meaning. -/
inductive Refusal where
  /-- Raised by `exec` for a command not modelled yet. Safe: the model stops. No command is refused. -/
  | notModelled (mnemonic : String)
  deriving DecidableEq, Repr

/-! ### The values after a cold start -/

/-- The mechanism as the model's reset finds it (DESIGN CHOICE, log 7). -/
def Sensors.reset : Sensors :=
  { cam := .at .eject, switchClosed := false, tabPresent := false, startActive := false
    endActive := false, dew := false }

/-- R29, with the cam at EJECT. -/
def Transport.reset : Transport :=
  { mode := .empty, pinch := false, camMove := none, path := none, owner := .none, control := none
    countdown := none, still := none, idle := none, stall := none, stopLimit := none
    fault := .none, switchArmed := true, order := none }

/-- R45, cold start. -/
def Servo.reset : Servo :=
  { drum := .off, drumRuns := ⟨0, 0, 0, 0⟩, drumLocked := false, drumRef := .internal
    drumDeadline := none, cap := .off, capTarget := .none, capRef := .none, capReached := false
    capIn := 0, capOut := 0, capDeadline := none, searchSpeed := .standard, searchRun := 0
    holdAt := none, detection := .none, mismatchRun := 0, blankMatch := 0, blankMismatch := 0
    absentAt := none, blank := false, recSpeed := .standard, playSpeed := .standard
    defaultSpeed := .standard, reel := .off, reelReached := false, tracking := 0, auto := .idle
    lastFail := none }

/-- R64, cold start. -/
def Position.reset : Position :=
  { counter := 0, source := .read, gap := 0, gapStopped := false, residue := 0, residueDir := .forward
    windResidue := 0, pulseSinceRev := false, writer := .idle, segment := none, detector := none
    map := [], mapFull := false, locate := none }

/-- R75, cold start. -/
def Remaining.reset : Remaining :=
  { interval := 0, run := 0, runDir := .forward, supply := none, takeUp := none, ks := none
    ku := none, fraction := none, rS := none, rL := none, rE := none, last := .none, mInUse := 0 }

/-- R98, cold start. -/
def Tuner.reset : Tuner :=
  { owner := .none, holder := .manual, selection := .none, lastDivisor := 0, base := none
    correction := 0, aft := .off, readings := 0, aftReady := false, band := .low
    lockLimit := none, signal := .unpowered, stationCode := 0, scan := none, seek := none
    fineStored := false }

/-- R111. -/
def Decoder.reset : Decoder :=
  { powered := false, pendingRec := none, errors := 0, code := 0, current := none, miss := 0
    lost := false, window := none }

/-- R125, cold start, with the default settings of R181. -/
def Clock.reset : Clock :=
  { calendar := ⟨0, 0, 0⟩, running := true, state := .unset, window := [], implausible := 0
    suspended := false, autoSet := true, seekHour := 3, timePreset := 1, seek := none
    lastSeek := none }

/-- R142, cold start: kind UNUSED, other fields 0. -/
def ProgCfg.reset : ProgCfg :=
  { program := false, enable := false, autoSpeed := false, labelControl := false
    repetition := .once, speedCode := 0, preset := 0, year := 0, month := 0, day := 0
    startHour := 0, startMinute := 0, stopHour := 0, stopMinute := 0 }

/-- R142, cold start: code NONE, other fields 0 or none. R139 gives the occurrence date no none: the model takes
0xFFFF, none, for it (DESIGN CHOICE, log 80). -/
def OutcomeRec.reset : OutcomeRec :=
  { code := 0, date := 0xFFFF, actual := 0xFFFF, minutes := 0, late := 0, flags := 0
    counter := 0x800000 }

/-- R142, cold start. -/
def Owned.reset : Owned :=
  { state := .unused, invalid := .none, next := none, lastClosed := none
    outcome := OutcomeRec.reset }

/-- R142, cold start. -/
def Entry.reset : Entry := { copy := ProgCfg.reset, owned := Owned.reset, run := none }

/-- R142, cold start. -/
def Scheduler.reset : Scheduler :=
  { entries := Vector.replicate 16 Entry.reset, due := [], clockHanded := .unset }

/-- R176, cold start. -/
def Power.reset : Power :=
  { state := .quiet, transportNeed := false, schedulerNeed := false, hostNeed := false
    supply := .off, settle := none, wake := .none, mainsPresent := true, retentionLost := false
    lostLatch := true, lineSeen := false, lineAsserted := false, startKind := .cold }

/-- R195. -/
def Requests.reset : Requests :=
  { slots := Vector.replicate 16 none, transportLane := none, tunerLane := none }

/-- No section held. -/
def Holds.none : Holds := { programs := false, presets := false, settings := false }

/-- R195. -/
def Claims.reset : Claims := { host := Holds.none, engine := Holds.none }

/-- R202, the straps both low (log 7). -/
def Port.reset : Port :=
  { mode := .parallel, selector := false, postEcho := 0, held := none, serial := none
    lastCommand := 0, dataOut := none, reply := none }

/-- R202: the start cause and the STATUS causes of the seven groups written at the start, whose gates
have closed for a second (R199). -/
def Presenter.reset : Presenter :=
  { pending := [⟨.power, 0⟩, ⟨.status, 0⟩, ⟨.status, 1⟩, ⟨.status, 2⟩, ⟨.status, 3⟩,
      ⟨.status, 4⟩, ⟨.status, 5⟩, ⟨.status, 6⟩]
    cl := 15, throttle := none, interval := 20
    gates := Vector.replicate 7 (.closed Config.statusGate false) }

/-- No signal, nothing to rewrite. -/
def Scratch.clear : Scratch := { notes := [], touched := [], askClock := false, writes := [] }

/-- The machine right after a cold start with no cassette in the deck (log 7): deck memory holds its
reset contents, so nothing is listed. -/
def State.reset : State :=
  { sensors := Sensors.reset, transport := Transport.reset, servo := Servo.reset
    position := Position.reset, remaining := Remaining.reset, tuner := Tuner.reset
    decoder := Decoder.reset, clock := Clock.reset, scheduler := Scheduler.reset
    power := Power.reset, requests := Requests.reset, claims := Claims.reset, port := Port.reset
    presenter := Presenter.reset, lamps := #v[.powerActive, .recording, .timerArmed, .cassette]
    mem := [], losses := 0, draws := 0, interlock := [], timeBase := 0, scratch := Scratch.clear, pending := [] }

end Sys2Proof.Machine
end

