-- ==== Sys2Proof/Machine/Ops.lean ====
section
/-! DEFINITION. The named operations every block uses: deck memory and its record writes (R178, R179), the
codes of 11.5, causes and STATUS gates (R199), the slots and lanes of the request unit (R183 to R187). -/
namespace Sys2Proof

/-- R3: the place of a position in the order of the positions, its code in 11.5. -/
def CamPos.code : CamPos → Nat
  | .eject => 0 | .housed => 1 | .half => 2 | .full => 3 | .drive => 4

/-- R3: the position next above, DRIVE itself at the top. -/
def CamPos.next : CamPos → CamPos
  | .eject => .housed | .housed => .half | .half => .full | .full => .drive | .drive => .drive

/-- R3: the position next below, EJECT itself at the bottom. -/
def CamPos.prev : CamPos → CamPos
  | .eject => .eject | .housed => .eject | .half => .housed | .full => .half | .drive => .full

/-- +1 forward, −1 in reverse. -/
def Dir.sign : Dir → Int
  | .forward => 1 | .reverse => -1

/-- The other direction. -/
def Dir.flip : Dir → Dir
  | .forward => .reverse | .reverse => .forward

end Sys2Proof

namespace Sys2Proof.Machine

/-! ### Bytes -/

/-- A word as its two bytes, the low one first (11.5). -/
def le16 (n : Nat) : List Byte := [BitVec.ofNat 8 n, BitVec.ofNat 8 (n / 256)]

/-- A value of four bytes as two words. 11.5 gives the byte order inside a word; that the low word comes first is the
model's (DESIGN CHOICE, log 81). -/
def le32 (n : Nat) : List Byte := le16 n ++ le16 (n / 65536)

/-- A signed byte, in two's complement (11.5). -/
def signed8 (x : Int) : Byte := BitVec.ofInt 8 x

/-- A signed value in four bytes, in two's complement (11.5), the low word first (log 81). -/
def signed32 (x : Int) : List Byte := le32 (BitVec.ofInt 32 x).toNat

/-- `n` bytes 0. -/
def zeros (n : Nat) : List Byte := List.replicate n 0

/-- The bytes `bs`, followed by bytes 0 up to `n` bytes. -/
def padTo (n : Nat) (bs : List Byte) : List Byte := bs ++ zeros (n - bs.length)

/-- 1 for true, 0 for false. -/
def bit (b : Bool) : Nat := if b then 1 else 0

/-- `x` moved to the nearest limit of lo..hi (00_scope, "clamped"). -/
def clampInt (lo hi x : Int) : Int := if x < lo then lo else if hi < x then hi else x

/-- `x` moved to the nearest limit of lo..hi (00_scope, "clamped"). -/
def clampNat (lo hi x : Nat) : Nat := if x < lo then lo else if hi < x then hi else x

/-! ### Codes of 11.5 -/

def Mode.code : Mode → Nat
  | .empty => 0 | .loaded => 1 | .threading => 2 | .stopped => 3 | .playing => 4
  | .recording => 5 | .cue => 6 | .review => 7 | .still => 8 | .recordPause => 9
  | .windFwd => 10 | .windRev => 11 | .unthreading => 12 | .ejecting => 13 | .faultHold => 14

def Reason.code : Reason → Nat
  | .none => 0 | .noCassette => 1 | .writeProtect => 2 | .dew => 3 | .timerActive => 4
  | .recording => 5 | .tunerHeld => 6 | .sectionHeld => 7 | .faultHold => 8 | .emptyPreset => 9
  | .badArgument => 10 | .atEnd => 11 | .atStart => 12 | .mechJam => 13 | .servoFail => 14
  | .reelStall => 15 | .preempted => 16 | .badKind => 17

/-- 11.5, fault code: NONE, or the reason code of the fault. -/
def FaultCode.reason : FaultCode → Reason
  | .none => .none | .mechJam => .mechJam | .reelStall => .reelStall | .servoFail => .servoFail

def ReqOutcome.code : ReqOutcome → Nat
  | .done => 1 | .refused => 2 | .failed => 3 | .superseded => 4

def Speed.code : Speed → Nat
  | .standard => 0 | .long => 1 | .extended => 2

/-- R181, R35: a speed code as read, codes above EXTENDED's clamped to it. -/
def Speed.ofCode : Nat → Speed
  | 0 => .standard | 1 => .long | _ => .extended

/-- 00_scope: the speed factor m. -/
def Speed.factor : Speed → Nat
  | .standard => 1 | .long => 2 | .extended => 3

/-- R199: the level of each kind of cause. -/
def CauseKind.level : CauseKind → Nat
  | .fault => 1 | .power => 2 | .program => 3 | .transport => 5 | .request => 6 | .claim => 7
  | .clock => 8 | .tuner => 9 | .port => 12 | .status => 14

/-- R196: the code of each kind of cause. -/
def CauseKind.code : CauseKind → Nat
  | .fault => 1 | .power => 2 | .program => 3 | .transport => 4 | .request => 5 | .claim => 6
  | .clock => 7 | .tuner => 8 | .port => 9 | .status => 10

/-- R196: the section codes of CLAIM. -/
def Section.code : Section → Nat
  | .programs => 1 | .presets => 2 | .settings => 3

/-! ### Deck memory -/

/-- What a byte of deck memory holds right after a cold start (R181, R182), 0 in the free storage. -/
def Memory.coldByte (a : Nat) : Byte :=
  if a < 0x0040 then
    ([1, 3, 1, 0, 0, 0, 10, 2, 3, 5, 20] : List Byte).getD a 0
  else if a < 0x0050 then (if a = 0x0043 then 0xFF else 0)
  else if a < 0x0090 then (if 0x0064 ≤ a ∧ a < 0x006C then 0xFF else 0)
  else if a < 0x00C0 then 0
  else if a < 0x00D0 then
    ([0xBC, 0x07, 1, 1, 0, 0, 0, 1] : List Byte).getD (a - 0x00C0) 0
  else if a < 0x00E0 then (if a = 0x00D0 then 1 else 0)
  else if a < 0x0100 then
    (if a = 0x00E0 ∨ a = 0x00E3 ∨ 0x00F8 ≤ a then 0 else 0xFF)
  else if 0x0300 ≤ a ∧ a < 0x0500 then
    (let o := (a - 0x0300) % 32
     if 14 ≤ o ∧ o < 24 then 0xFF else if o = 29 then 0x80 else 0)
  else 0

/-- R178, R182: the bytes that no cold start writes: the free retained storage and the last four bytes of
each slot. -/
def Memory.isFree (a : Nat) : Bool :=
  (0x0C00 ≤ a && a < Config.memBytes) || (0x0100 ≤ a && a < 0x0300 && 28 ≤ (a - 0x0100) % 32)

/-- What an address that is not listed reads as: the contents a cold start leaves. In the free storage it
is 0 up to the first loss of retention (DESIGN CHOICE, log 8) and a free value after one. -/
def Memory.unlisted (losses a : Nat) : Byte :=
  if Memory.isFree a && losses != 0 then Config.freeByte losses a else Memory.coldByte a

/-- The byte at an address. -/
def Memory.read (losses : Nat) (m : Memory) (a : Nat) : Byte :=
  match m.find? (fun c => c.1 == a) with
  | some c => c.2
  | none => Memory.unlisted losses a

/-- The cells that the bytes `bs` from address `a` need: those inside deck memory that differ from what
the address reads as when it is not listed. -/
def Memory.cells (losses : Nat) : Nat → List Byte → Memory
  | _, [] => []
  | a, b :: bs =>
    if a < Config.memBytes ∧ b ≠ Memory.unlisted losses a then
      (a, b) :: Memory.cells losses (a + 1) bs
    else Memory.cells losses (a + 1) bs

/-- The bytes `bs` stored from address `a` up. -/
def Memory.writeBytes (losses : Nat) (m : Memory) (a : Nat) (bs : List Byte) : Memory :=
  m.filter (fun c => c.1 < a) ++ Memory.cells losses a bs
    ++ m.filter (fun c => a + bs.length ≤ c.1)

/-- The record writes of an event, the latest first, made in their order. -/
def Memory.apply (losses : Nat) (m : Memory) : List (Nat × List Byte) → Memory
  | [] => m
  | (a, bs) :: ws => Memory.writeBytes losses (Memory.apply losses m ws) a bs

/-- The canonical form: addresses strictly rising and inside deck memory (R178), and no cell equal to what
its address reads as unlisted. -/
def Memory.wf (losses : Nat) (m : Memory) : Bool :=
  decide (m.Pairwise fun c d => c.1 < d.1) &&
    m.all fun c => c.1 < Config.memBytes && c.2 != Memory.unlisted losses c.1

/-- The byte at an address under record writes made but not yet landed, the latest first. -/
def Memory.readUnder (losses : Nat) (m : Memory) (a : Nat) : List (Nat × List Byte) → Byte
  | [] => Memory.read losses m a
  | (b, bs) :: ws =>
    if b ≤ a then (bs[a - b]?).getD (Memory.readUnder losses m a ws)
    else Memory.readUnder losses m a ws

/-- The byte of deck memory as it stands in the event. -/
def State.byte (s : State) (a : Nat) : Byte :=
  Memory.readUnder s.losses s.mem a s.scratch.writes

/-- The byte as a number. -/
def State.byteNat (s : State) (a : Nat) : Nat := (s.byte a).toNat

/-- The word at an address as a number, low byte first (11.5). -/
def State.wordNat (s : State) (a : Nat) : Nat := s.byteNat a + 256 * s.byteNat (a + 1)

/-- The four bytes at an address as a number, the low word first (11.5; DESIGN CHOICE, log 81). -/
def State.longNat (s : State) (a : Nat) : Nat := s.wordNat a + 65536 * s.wordNat (a + 2)

/-- The four bytes at an address as a signed value, in two's complement (11.5), the low word first (log 81). -/
def State.longInt (s : State) (a : Nat) : Int := (BitVec.ofNat 32 (s.longNat a)).toInt

/-- The `n` bytes from address `a`. -/
def State.bytes (s : State) (a : Nat) : Nat → List Byte
  | 0 => []
  | n + 1 => s.byte a :: State.bytes s (a + 1) n

/-- R179: a record write of the bytes `bs` over the span from `a`. It lands at the end of the event. -/
def State.writeRecord (s : State) (a : Nat) (bs : List Byte) : State :=
  { s with scratch.writes := (a, bs) :: s.scratch.writes }

/-! ### Signals inside an event -/

/-- A signal for another block, taken after those already waiting (log 21). -/
def State.note (s : State) (n : Note) : State :=
  { s with scratch.notes := s.scratch.notes ++ [n] }

/-- A record to be rewritten although its figures may not have changed: status group 0 to 6, 7 the tape
map, 8 the label context record. -/
def State.touch (s : State) (g : Nat) : State :=
  { s with scratch.touched := g :: s.scratch.touched }

/-! ### Causes (R199) -/

/-- R200: `c` is more favoured than `d`. -/
def Cause.before (c d : Cause) : Bool :=
  decide (c.kind.level < d.kind.level) ||
    (decide (c.kind.level = d.kind.level) && decide (c.detail < d.detail))

/-- R199: a cause joins the set, merging with an equal one. -/
def Cause.insert (c : Cause) : List Cause → List Cause
  | [] => [c]
  | d :: ds =>
    if c = d then d :: ds
    else if c.before d then c :: d :: ds
    else d :: Cause.insert c ds

/-- R199: a cause is raised. -/
def State.raise (s : State) (kind : CauseKind) (detail : Nat) : State :=
  { s with presenter.pending := Cause.insert ⟨kind, detail⟩ s.presenter.pending }

/-- R199: the owner of group `g` asks for its STATUS cause. -/
def State.askStatus (s : State) (g : Fin 7) : State :=
  match s.presenter.gates[g] with
  | .opened =>
    let s := s.raise .status g.val
    { s with presenter.gates :=
        s.presenter.gates.set g (.closed (s.timeBase + Config.statusGate) false) }
  | .closed expiry _ =>
    { s with presenter.gates := s.presenter.gates.set g (.closed expiry true) }

/-! ### Slots and lanes (R183 to R187) -/

/-- The two lanes (R187). -/
inductive Lane where
  | transport | tuner
  deriving DecidableEq, Repr

/-- The slot of the request in flight on a lane. -/
def State.lane (s : State) : Lane → Option (Fin 16)
  | .transport => s.requests.transportLane
  | .tuner => s.requests.tunerLane

/-- R187: the lane holds `n`, or nothing. -/
def State.setLane (s : State) (l : Lane) (n : Option (Fin 16)) : State :=
  match l with
  | .transport => { s with requests.transportLane := n }
  | .tuner => { s with requests.tunerLane := n }

/-- The bytes of the slot-finish record write (R186). -/
def finishBytes (r : Request) (o : ReqOutcome) (why : Reason) (results : List Byte) : List Byte :=
  [3, BitVec.ofNat 8 r.kind] ++ padTo 12 (r.args.take 12)
    ++ [BitVec.ofNat 8 o.code, BitVec.ofNat 8 why.code] ++ padTo 12 (results.take 12)

/-- R186: the request of slot `n` ends. -/
def State.finishSlot (s : State) (n : Fin 16) (o : ReqOutcome) (why : Reason)
    (results : List Byte) : State :=
  match s.requests.slots[n] with
  | none => s
  | some r =>
    let s := s.writeRecord (Config.slotBase n.val) (finishBytes r o why results)
    let s := { s with requests :=
      { slots := s.requests.slots.set n none
        transportLane :=
          if s.requests.transportLane = some n then none else s.requests.transportLane
        tunerLane := if s.requests.tunerLane = some n then none else s.requests.tunerLane } }
    s.raise .request n.val

/-- R187: the lane's request, if one is in flight, ends. -/
def State.finishLane (s : State) (l : Lane) (o : ReqOutcome) (why : Reason)
    (results : List Byte) : State :=
  match s.lane l with
  | none => s
  | some n => s.finishSlot n o why results

/-- R187: the request of slot `n` is taken into a lane, superseding the one in flight there. -/
def State.takeLane (s : State) (l : Lane) (n : Fin 16) : State :=
  (s.finishLane l .superseded .none []).setLane l (some n)

/-! ### Claims (R191) -/

/-- The hold on a section. -/
def Holds.get (h : Holds) : Section → Bool
  | .programs => h.programs
  | .presets => h.presets
  | .settings => h.settings

/-- The hold on a section set or cleared. -/
def Holds.put (h : Holds) (x : Section) (b : Bool) : Holds :=
  match x with
  | .programs => { h with programs := b }
  | .presets => { h with presets := b }
  | .settings => { h with settings := b }

/-- R194: a host hold is revoked, with its CLAIM cause; a clear hold is not. -/
def State.revoke (s : State) (x : Section) : State :=
  if s.claims.host.get x then
    { s with claims.host := s.claims.host.put x false }.raise .claim x.code
  else s

/-! ### The part's time -/

/-- R112: uptime in seconds. -/
def State.uptime (s : State) : Nat := min (s.timeBase / Config.hz) Config.uptimeMax

/-- The expiry of a limit that starts now. -/
def State.after (s : State) (cycles : Nat) : Nat := s.timeBase + cycles

/-- A limit has run out. -/
def State.ranOut (s : State) (limit : Option Nat) : Bool := limit.any fun t => t ≤ s.timeBase

/-- The part is running: neither in RETAIN nor held by the reset line (R174, R175). -/
def State.on (s : State) : Bool := s.power.state != .retain && !s.power.lineAsserted

/-- R126: an entry of the program table, as the scheduler holds it. -/
def State.entry (s : State) (n : Fin 16) : Entry := s.scheduler.entries[n]

end Sys2Proof.Machine
end

