-- ==== Sys2Proof/Machine/Position.lean ====
section
/-! DEFINITION. The position unit's own state (chapter 3): the counter and its sources, the mark writer,
the mark detector, the tape map, COUNTER_ZERO. The approach of a LOCATE is in Transport.lean. -/
namespace Sys2Proof.Machine

/-! ### The counter (R46 to R49) -/

/-- R46: the counter's range. -/
def counterClamp (x : Int) : Int := clampInt (-Config.counterMax) Config.counterMax x

/-- R46 to R48: the counter moves by `n` frames in a direction, within its limits. -/
def Position.move (p : Position) (d : Dir) (n : Nat) : Position :=
  { p with counter := counterClamp (p.counter + d.sign * n) }

/-- R46, R49: a control pulse is counted. -/
def Position.countPulse (p : Position) (d : Dir) : Position :=
  { p.move d 1 with
      source := .read, gap := 0, gapStopped := false, residue := 0, windResidue := 0, pulseSinceRev := true }

/-- R46: the position of the pulse counted from `before` to `after`. -/
def pulsePosition (before after : Int) : Int := if before < after then after else before

/-- R47: a tachometer pulse over tape under the capstan, `m` the factor in force, at each pulse (log 40). The gap
count that has reached its limit counts no further, whatever the factor becomes. Three points that R47 leaves open
are the model's: with the gap count stopped and the source HELD, the limit is reached anew at this pulse; with the
source ESTIMATED by a wind, or kept so with the gap count 0 by a warm or line start (R64), and the gap count not
stopped, the gap fills first; pulses of both directions fill one gap, and its 3 frames go the way of the last
(log 55). -/
def Position.tachPulse (p : Position) (d : Dir) (m : Nat) : Position :=
  if p.source = .estimated ∧ p.gapStopped then
    let n := if p.residue = 0 ∨ p.residueDir = d then p.residue + 1 else 1
    if 24 / m ≤ n then { p.move d 1 with residue := 0, residueDir := d }
    else { p with residue := n, residueDir := d }
  else if p.gapStopped ∨ 72 / m ≤ p.gap + 1 then
    { p.move d 3 with gap := 72 / m, gapStopped := true, source := .estimated }
  else { p with gap := p.gap + 1 }

/-- R48: a take-up revolution over blank tape in a wind, `ku` the take-up measurement and its factor, `m`
the factor in force. -/
def Position.blankRevolution (p : Position) (d : Dir) (ku : Option Measure) (m : Nat) : Position :=
  match ku with
  | none => { p with source := .held }
  | some k =>
    let r := p.windResidue + k.value * m
    { p.move d (r / (16 * k.factor)) with
        source := .estimated, windResidue := r % (16 * k.factor) }

/-- R48: a take-up revolution completes; `wind` is the direction when the reels are driven. -/
def Position.takeUpRevolution (p : Position) (wind : Option Dir) (ku : Option Measure) (m : Nat) :
    Position :=
  if p.pulseSinceRev then { p with windResidue := 0, pulseSinceRev := false }
  else
    match wind with
    | some d => p.blankRevolution d ku m
    | none => p

/-! ### The tape map (R53 to R57) -/

/-- R54: the distance of an entry from a mark. -/
def MapEntry.distance (e : MapEntry) (pos : Int) : Nat := (e.position - pos).natAbs

/-- R54: the nearest entry within 100 frames, the lower of two at the same distance. The map is in
ascending order. -/
def nearestEntry (pos : Int) (best : Option MapEntry) : List MapEntry → Option MapEntry
  | [] => best
  | e :: es =>
    if e.distance pos < 100 ∧ (best.all fun b => e.distance pos < b.distance pos) then
      nearestEntry pos (some e) es
    else nearestEntry pos best es

/-- R53: an entry placed in ascending order of position. -/
def placeEntry (e : MapEntry) : List MapEntry → List MapEntry
  | [] => [e]
  | f :: fs => if e.position < f.position then e :: f :: fs else f :: placeEntry e fs

/-- R54: what a mark makes of the entry it merges into. -/
def MapEntry.merge (e : MapEntry) (origin : Origin) (program : Option (Fin 16)) : MapEntry :=
  match origin with
  | .written => { e with origin := .written, program := program }
  | .seen => e

/-- R54, R55: a mark is entered in the map; with it, the position of the entry that results. -/
def Position.enterMark (p : Position) (pos : Int) (origin : Origin) (program : Option (Fin 16)) :
    Position × Option Int :=
  match nearestEntry pos none p.map with
  | some e =>
    ({ p with map := p.map.map fun f =>
        if f.position = e.position then f.merge origin program else f }, some e.position)
  | none =>
    if p.map.length < 24 then
      ({ p with map := placeEntry ⟨pos, origin, program⟩ p.map }, some pos)
    else ({ p with mapFull := true }, none)

/-- R56: a written pulse removes the entries at its position, but for the segment entry. -/
def Position.erase (p : Position) (pos : Int) : Position :=
  { p with map := p.map.filter fun e => e.position ≠ pos ∨ p.segment = some e.position }

/-- R57: the map is emptied. -/
def Position.emptyMap (p : Position) : Position :=
  { p with map := [], mapFull := false, segment := none }

/-- R57, R49: the insertion of a cassette. -/
def Position.insertion (p : Position) : Position :=
  { p.emptyMap with
      counter := 0, source := .read, gap := 0, gapStopped := false, residue := 0, windResidue := 0
      detector := none, writer := .idle }

/-! ### The mark writer (R50, R51) -/

/-- R50: the mark writer has written no altered frame yet. -/
def MarkWriter.fresh : MarkWriter → Bool
  | .writing 0 _ _ => true
  | _ => false

/-- R51: writing ends or is suspended, which cuts a mark being written. -/
def Position.cutMark (p : Position) : Position :=
  match p.writer with
  | .idle => p
  | .writing count _ mark =>
    if 32 ≤ count then { p with writer := .idle }
    else
      { p with
          writer := .idle, segment := none
          map := p.map.filter fun e => some e.position ≠ mark }

/-- R50, R51: a new start is reported, for a program entry or none. -/
def Position.newStart (p : Position) (program : Option (Fin 16)) : Position :=
  { p.cutMark with writer := .writing 0 program none }

/-- R50: the pulse at `pos` is written: altered while the mark writer is at work. -/
def Position.writePulse (p : Position) (pos : Int) : Position :=
  match p.writer with
  | .idle => p
  | .writing count program mark =>
    if count = 0 then
      let (p, entry) := p.enterMark pos .written program
      { p with segment := entry, writer := .writing 1 program entry }
    else if 50 ≤ count + 1 then { p with writer := .idle }
    else { p with writer := .writing (count + 1) program mark }

/-! ### The mark detector (R52) -/

/-- R52: a run ends; with it, the run if it is long enough for a mark. -/
def Position.endRun (p : Position) : Position × Option MarkRun :=
  match p.detector with
  | none => (p, none)
  | some r =>
    if 32 ≤ r.length then
      (({ p with detector := none }.enterMark r.lowest .seen none).1, some r)
    else ({ p with detector := none }, none)

/-- R52: a pulse read at `pos` in motion in direction `d`. -/
def Position.detectPulse (p : Position) (d : Dir) (altered : Bool) (pos : Int) :
    Position × Option MarkRun :=
  let begin (q : Position) : Position :=
    { q with detector := some ⟨d, 1, pos, q.locate.isSome⟩ }
  if altered then
    match p.detector with
    | none => (begin p, none)
    | some r =>
      if r.dir = d then
        ({ p with detector := some { r with
            length := r.length + 1, lowest := if pos < r.lowest then pos else r.lowest } }, none)
      else
        let (q, seen) := p.endRun
        (begin q, seen)
  else p.endRun

/-! ### COUNTER_ZERO (R58) -/

/-- R58: the entry's position stays in the range. -/
def inCounterRange (x : Int) : Bool := -Config.counterMax ≤ x && x ≤ Config.counterMax

/-- R58: an entry moved by −c. -/
def MapEntry.rebase (e : MapEntry) (c : Int) : MapEntry := { e with position := e.position - c }

/-- R58: COUNTER_ZERO, with the number of entries removed. -/
def Position.zero (p : Position) : Position × Nat :=
  let c := p.counter
  let moved := p.map.map (·.rebase c)
  let kept := moved.filter fun e => inCounterRange e.position
  ({ p with
      map := kept, counter := 0, segment := p.segment.map (· - c)
      detector := p.detector.map fun r => { r with lowest := r.lowest - c }
      writer := (match p.writer with
        | .idle => .idle
        | .writing n g mark => .writing n g (mark.map (· - c)))
      locate := p.locate.map fun l => { l with target := l.target.map fun t => counterClamp (t - c) } },
    moved.length - kept.length)

/-- R64: the values after a start. `kept`: a warm or line start with a cassette present. -/
def Position.start (p : Position) (kept : Bool) : Position :=
  if kept then
    { Position.reset with counter := p.counter, source := p.source, map := p.map, mapFull := p.mapFull }
  else Position.reset

end Sys2Proof.Machine
end

