-- ==== Sys2Proof/Machine/Calendar.lean ====
section
/-! DEFINITION. Dates and times (R113, R114, 8.1): the day number of a date and back, validity, weekdays. -/
namespace Sys2Proof.Machine

/-- A civil date. -/
structure Civil where
  year : Nat
  month : Nat
  day : Nat
  deriving DecidableEq, Repr

/-- 00_scope: every year of the range divisible by 4 is a leap year. -/
def leapYear (year : Nat) : Bool := year % 4 == 0

/-- R114: the length of a month. -/
def monthLength (leap : Bool) : Nat → Nat
  | 1 => 31 | 2 => if leap then 29 else 28 | 3 => 31 | 4 => 30 | 5 => 31 | 6 => 30
  | 7 => 31 | 8 => 31 | 9 => 30 | 10 => 31 | 11 => 30 | 12 => 31 | _ => 0

/-- The days of a year before a month. -/
def daysBefore (leap : Bool) : Nat → Nat
  | 0 => 0
  | 1 => 0
  | m + 1 => daysBefore leap m + monthLength leap m

/-- R114: a valid date. -/
def validDate (d : Civil) : Bool :=
  1980 ≤ d.year && d.year ≤ 2079 && 1 ≤ d.month && d.month ≤ 12 && 1 ≤ d.day &&
    d.day ≤ monthLength (leapYear d.year) d.month

/-- 8.1: the day number of a date, 0 for 1980-01-01. -/
def dayNumber (d : Civil) : Nat :=
  let y := d.year - 1980
  y * 365 + (y + 3) / 4 + daysBefore (leapYear d.year) d.month + (d.day - 1)

/-- The month and day of a day of the year, from month `m` on; `fuel` months are left. -/
def monthOf (leap : Bool) (m dayOfYear : Nat) : Nat → Nat × Nat
  | 0 => (m, dayOfYear + 1)
  | fuel + 1 =>
    if dayOfYear < monthLength leap m then (m, dayOfYear + 1)
    else monthOf leap (m + 1) (dayOfYear - monthLength leap m) fuel

/-- 8.1: the date of a day number. -/
def civilOf (day : Nat) : Civil :=
  let q := day / 1461
  let r := day % 1461
  let y := if r < 366 then 4 * q else 4 * q + 1 + (r - 366) / 365
  let n := if r < 366 then r else (r - 366) % 365
  let md := monthOf (leapYear (1980 + y)) 1 n 11
  ⟨1980 + y, md.1, md.2⟩

/-- R114: the weekday of a day number, 0 MONDAY to 6 SUNDAY; day 0 is a TUESDAY. -/
def weekdayOf (day : Nat) : Nat := (day + 1) % 7

/-- Seconds from 1980-01-01 00:00:00. -/
def Calendar.seconds (c : Calendar) : Nat := c.day * 86400 + c.sec

/-- The minute of the day. -/
def Calendar.minute (c : Calendar) : Nat := c.sec / 60

/-- The hour. -/
def Calendar.hour (c : Calendar) : Nat := c.sec / 3600

/-- The calendar in cycles from 1980-01-01 00:00:00. -/
def Calendar.cycles (c : Calendar) : Int := (c.seconds * Config.hz + c.phase : Nat)

/-- Seconds from 1980-01-01 00:00:00 to the end of the range, the first second past it (R113). -/
def rangeEnd : Nat := (Config.lastDay + 1) * 86400

/-- The calendar at a second and a phase. -/
def calendarAt (seconds phase : Nat) : Calendar := ⟨seconds / 86400, seconds % 86400, phase⟩

/-- The next second, phase 0 (R113). -/
def Calendar.tick (c : Calendar) : Calendar := calendarAt (c.seconds + 1) 0

end Sys2Proof.Machine
end

