-- ==== Sys2Proof/Machine/Operands.lean ====
section
/-! DEFINITION. What the part reads of deck memory and of a request's arguments: the settings block (R181),
the presets (R83), the configuration of a program entry (R126), the slots (R184), the argument layouts of
11.5. -/
namespace Sys2Proof.Machine

/-! ### Settings (R181) -/

/-- R201: the source a code names, codes above the last clamped to it. -/
def Lamp.ofCode : Nat → Lamp
  | 0 => .off | 1 => .on | 2 => .recording | 3 => .timerArmed | 4 => .timerNoTape | 5 => .cassette
  | 6 => .locked | 7 => .label | 8 => .clockUnset | 9 => .fault | _ => .powerActive

/-- The settings block as read, every field clamped (R181). -/
structure Settings where
  autoSet : Bool
  seekHour : Nat
  timePreset : Nat
  speed : Speed
  length : Nat
  lamps : Vector Lamp 4
  interval : Nat
  deriving DecidableEq, Repr

/-- R72, R181: the cassette length in use for a value read. -/
def lengthInUse (n : Nat) : Nat := if n = 0 then 0 else clampNat 30 300 n

/-- R181: the settings block read from deck memory. -/
def State.settings (s : State) : Settings :=
  { autoSet := s.byteNat 0 != 0
    seekHour := min 23 (s.byteNat 1)
    timePreset := min 64 (s.byteNat 2)
    speed := Speed.ofCode (s.byteNat 3)
    length := lengthInUse (s.wordNat 4)
    lamps := #v[Lamp.ofCode (s.byteNat 6), Lamp.ofCode (s.byteNat 7), Lamp.ofCode (s.byteNat 8),
      Lamp.ofCode (s.byteNat 9)]
    interval := s.byteNat 10 }

/-- R181: the default settings, as bytes. -/
def defaultSettings : List Byte := padTo 64 [1, 3, 1, 0, 0, 0, 10, 2, 3, 5, 20]

/-! ### Presets (R83) -/

/-- A preset as read, divisor and fine offset clamped (R83). -/
structure Preset where
  inUse : Bool
  aft : Bool
  skip : Bool
  fine : Int
  divisor : Nat
  station : Nat
  deriving DecidableEq, Repr

/-- R77: a divisor brought into the range. -/
def divisorClamp (n : Nat) : Nat := clampNat Config.divMin Config.divMax n

/-- R91: a fine offset brought into the range. -/
def fineClamp (x : Int) : Int := clampInt (-31) 31 x

/-- R83: preset `p`, 1 to 64, read from deck memory. -/
def State.preset (s : State) (p : Nat) : Preset :=
  let a := Config.presetBase p
  { inUse := (s.byte a).getLsbD 0
    aft := (s.byte a).getLsbD 1
    skip := (s.byte a).getLsbD 2
    fine := fineClamp (s.byte (a + 1)).toInt
    divisor := divisorClamp (s.wordNat (a + 2))
    station := s.wordNat (a + 4) }

/-- R126: the number names a preset, and that preset is in use. -/
def State.presetInUse (s : State) (p : Nat) : Bool :=
  1 ≤ p && p ≤ 64 && (s.preset p).inUse

/-- The preset numbers, 1 to 64. -/
def presetNumbers : List Nat := (List.range 64).map (· + 1)

/-! ### Program entries (R126) -/

/-- R134: the repeat a code names. -/
def Repetition.ofCode : Nat → Repetition
  | 0 => .once | 1 => .daily | 2 => .weekdays | _ => .weekly

/-- R126: the configuration fields of an entry read from deck memory. -/
def State.progCfg (s : State) (n : Fin 16) : ProgCfg :=
  let a := Config.entryBase n.val
  let b := s.byte a
  { program := b.getLsbD 0
    enable := b.getLsbD 1
    autoSpeed := b.getLsbD 2
    labelControl := b.getLsbD 3
    repetition := Repetition.ofCode (b.toNat / 16 % 4)
    speedCode := b.toNat / 64
    preset := s.byteNat (a + 1)
    year := s.wordNat (a + 2)
    month := s.byteNat (a + 4)
    day := s.byteNat (a + 5)
    startHour := s.byteNat (a + 6)
    startMinute := s.byteNat (a + 7)
    stopHour := s.byteNat (a + 8)
    stopMinute := s.byteNat (a + 9) }

/-! ### Slots and arguments (R184, 11.5) -/

/-- R184: the kind and arguments of slot `n`, as copied at a POST. -/
def State.slotRequest (s : State) (n : Fin 16) : Request :=
  { kind := s.byteNat (Config.slotBase n.val + 1), args := s.bytes (Config.slotBase n.val + 2) 12 }

/-- Argument byte `i`. -/
def Request.byte (r : Request) (i : Nat) : Nat := (r.args.getD i 0).toNat

/-- The argument word at byte `i`. -/
def Request.word (r : Request) (i : Nat) : Nat := r.byte i + 256 * r.byte (i + 1)

/-- The signed argument byte `i`. -/
def Request.signed (r : Request) (i : Nat) : Int := (r.args.getD i 0).toInt

/-- The signed argument of four bytes at byte `i`. -/
def Request.long (r : Request) (i : Nat) : Int :=
  (BitVec.ofNat 32 (r.word i + 65536 * r.word (i + 2))).toInt

end Sys2Proof.Machine
end

