-- ==== Sys2Proof/Machine/LineData.lean ====
section
/-! DEFINITION. The line-data decoder's own state (chapter 6): the checks of a packet, the joining of label
records, the label context with its miss window and its clearing. -/
namespace Sys2Proof

/-- R100: the nine bits hold an odd number of ones. -/
def oddParity (b : BitVec 9) : Bool :=
  ((List.range 9).filter fun i => b.getLsbD i).length % 2 == 1

/-- R100: every byte of the packet passes its parity. -/
def Packet.parityOk (p : Packet) : Bool :=
  oddParity p.b0 && oddParity p.b1 && oddParity p.b2 && oddParity p.b3 && oddParity p.b4
    && oddParity p.b5

/-- R100: the data bits of a byte as sent. -/
def dataByte (b : BitVec 9) : BitVec 8 := b.setWidth 8

/-- R100: the kind code of the header. -/
def Packet.kind (p : Packet) : Nat := (dataByte p.b0).toNat / 64

/-- R100: the fragment code of the header. -/
def Packet.fragment (p : Packet) : Nat := (dataByte p.b0).toNat / 16 % 4

/-- R100: the sequence number of the header. -/
def Packet.sequence (p : Packet) : Nat := (dataByte p.b0).toNat % 16

/-- R100: the 40 bits of the payload, byte 1 uppermost. -/
def Packet.payload (p : Packet) : BitVec 40 :=
  dataByte p.b1 ++ dataByte p.b2 ++ dataByte p.b3 ++ dataByte p.b4 ++ dataByte p.b5

/-- R100: the packet passes the parity stage and the header stage. -/
def Packet.passes (p : Packet) : Bool := p.parityOk && p.kind != 0 && p.sequence != 0

/-- R100: the payload field of `width` bits whose lowest bit is `low`. -/
def payloadField (p : BitVec 40) (low width : Nat) : Nat := p.toNat / 2 ^ low % 2 ^ width

end Sys2Proof

namespace Sys2Proof.Machine

/-- R100: the packet error count rises by 1, up to 65,535. -/
def Decoder.countError (d : Decoder) : Decoder := { d with errors := min 65535 (d.errors + 1) }

/-- R102: the sequence number that follows. -/
def nextSequence (n : Nat) : Nat := if n = 15 then 1 else n + 1

/-- R102: the label record joined from the payloads of FIRST and LAST, or none when a check fails. -/
def joinLabel (first last : BitVec 40) : Option LabelRecord :=
  let day := payloadField first 19 5
  let month := payloadField first 15 4
  let hour := payloadField first 10 5
  let minute := payloadField first 4 6
  let status : Option LabelStatus := match payloadField last 38 2 with
    | 0 => some .notRunning | 1 => some .running | 2 => some .interrupted | _ => none
  match status with
  | none => none
  | some st =>
    if 1 ≤ month ∧ month ≤ 12 ∧ 1 ≤ day ∧ day ≤ monthLength true month ∧ hour ≤ 23 ∧ minute ≤ 59 then
      some { code := payloadField first 24 16, day := day, month := month, hour := hour
             minute := minute, status := st, duration := payloadField last 28 10
             category := payloadField last 24 4 }
    else none

/-- R104: the universal date and time of a TIME packet in seconds from 1980-01-01 and its offset in
half-hours, or none when a check fails. -/
def timeFields (p : BitVec 40) : Option (Nat × Int) :=
  let date : Civil := ⟨1980 + payloadField p 33 7, payloadField p 29 4, payloadField p 24 5⟩
  let hour := payloadField p 19 5
  let minute := payloadField p 13 6
  let second := payloadField p 7 6
  let offset := (BitVec.ofNat 6 (payloadField p 1 6)).toInt
  if validDate date ∧ hour ≤ 23 ∧ minute ≤ 59 ∧ second ≤ 59 ∧ -24 ≤ offset ∧ offset ≤ 24 then
    some (dayNumber date * 86400 + hour * 3600 + minute * 60 + second, offset)
  else none

/-- R108: the label context is cleared, the pending record discarded, the miss window started afresh if
the decoder is powered. -/
def Decoder.clear (d : Decoder) (now : Nat) : Decoder :=
  { d with
      pendingRec := none, code := 0, current := none, miss := 0, lost := false
      window := if d.powered then some (now + Config.missWindow) else none }

/-- R108: a clearing, with both records rewritten and the scheduler handed it. -/
def State.clearLabel (s : State) : State :=
  ((({ s with decoder := s.decoder.clear s.timeBase }).touch 3).touch 8).note .labelCleared

/-- R99, R107: the decoder gains power with the tuner. -/
def Decoder.powerUp (d : Decoder) (now : Nat) : Decoder :=
  { d with powered := true, window := some (now + Config.missWindow) }

/-- R99, R101, R107: the decoder loses power with the tuner. -/
def Decoder.powerDown (d : Decoder) : Decoder :=
  { d with powered := false, pendingRec := none, window := none }

/-- R99: the signal state leaves SYNC, so the pending record is discarded. -/
def Decoder.leaveSync (d : Decoder) : Decoder := { d with pendingRec := none }

/-- R105: the comparison of a complete record with the tuned station code. -/
def labelAccepted (tuned : Nat) (r : LabelRecord) : Bool := tuned == 0 || tuned == r.code

/-- R106: a record is accepted. -/
def Decoder.accept (d : Decoder) (r : LabelRecord) (now : Nat) : Decoder :=
  { d with
      current := some r, code := if r.code = 0 then d.code else r.code, miss := 0, lost := false
      window := some (now + Config.missWindow) }

/-- R107: the miss window runs out. -/
def Decoder.missed (d : Decoder) (now : Nat) : Decoder :=
  let n := min 255 (d.miss + 1)
  { d with
      miss := n, lost := d.lost || n == 10
      window := some (now + Config.missWindow) }

/-- R111: the values after every start. -/
def Decoder.start : Decoder := Decoder.reset

end Sys2Proof.Machine
end

