-- ==== Sys2Proof/Machine/Tuner.lean ====
section
/-! DEFINITION. The tuner (chapter 5): divisors and tunes, power, AFT, the selection, the owner, SELECT and
FINE, the scan, its resets. -/
namespace Sys2Proof.Machine

/-! ### Codes of 11.5 -/

def TunerOwner.code : TunerOwner → Nat
  | .none => 0 | .view => 1 | .record => 2 | .scan => 3 | .seek => 4

def Band.code : Band → Nat
  | .low => 0 | .mid => 1 | .high => 2

def AftState.code : AftState → Nat
  | .off => 0 | .running => 1 | .ok => 2 | .fail => 3

def Signal.code : Signal → Nat
  | .unpowered => 0 | .acquiring => 1 | .noLock => 2 | .locked => 3 | .sync => 4

/-! ### Divisor, band and tunes (R77, R78) -/

/-- R78: the effective N of a base and a correction. -/
def effectiveOf (b : TunedBase) (correction : Int) : Nat :=
  (clampInt Config.divMin Config.divMax (b.divisor + b.fine + correction)).toNat

/-- R78: the effective N, or none when not tuned. -/
def Tuner.effectiveN (t : Tuner) : Option Nat := t.base.map fun b => effectiveOf b t.correction

/-- R77: the band of an effective N. -/
def bandOf (n : Nat) : Band := if n ≤ 2926 then .low else if n ≤ 7662 then .mid else .high

/-- R77: the band follows the effective N; not tuned, it stays (log 15). -/
def Tuner.followBand (t : Tuner) : Tuner :=
  match t.effectiveN with
  | some n => { t with band := bandOf n }
  | none => t

/-- R78: the tuner's part of a tune. `limit` is the expiry of the lock limit, none for a scan step. -/
def Tuner.tune (t : Tuner) (b : TunedBase) (station : Nat) (limit : Option Nat) : Tuner :=
  Tuner.followBand
    { t with
        base := some b, correction := 0, aft := if b.aft then .running else .off, readings := 0
        aftReady := false, lockLimit := limit, signal := .acquiring, stationCode := station }

/-- R85, R99: the tuner and the decoder gain power, if they are not powered. Until a tune the signal is NO_LOCK
(log 15), with the station code and the band as they stood (log 93). -/
def State.powerTuner (s : State) : State :=
  if s.tuner.signal = .unpowered then
    { s with tuner.signal := .noLock, decoder := s.decoder.powerUp s.timeBase }
  else s

/-- R117: the vote window is emptied. -/
def State.emptyVotes (s : State) : State := { s with clock.window := [] }

/-- R78: a tune, with the decoder and the clock told of it. `step`: a scan step, which has no lock limit
(R93). -/
def State.tune (s : State) (b : TunedBase) (station : Nat) (step : Bool) : State :=
  let s := s.powerTuner
  let limit := if step then none else some (s.after Config.lockLimit)
  { s with tuner := s.tuner.tune b station limit }.clearLabel.emptyVotes

/-- The tuned base that a preset's fields make. -/
def Preset.base (q : Preset) (p : Nat) : TunedBase := ⟨q.divisor, q.fine, p, q.aft⟩

/-- R83, R84: preset `p` is read. Of the selected preset the divisor is the last one read. -/
def State.readPreset (s : State) (p : Nat) : State :=
  if s.tuner.selection = .preset p ∧ (s.preset p).inUse then
    { s with tuner.lastDivisor := (s.preset p).divisor }
  else s

/-- R83, R84: the preset table is read. -/
def State.readPresets (s : State) : State :=
  match s.tuner.selection with
  | .preset p => s.readPreset p
  | _ => s

/-- R83: a tune of preset `p`, with AFT if its flag is set. -/
def State.tunePreset (s : State) (p : Nat) : State :=
  let q := s.preset p
  (s.readPreset p).tune (q.base p) q.station false

/-- R85, R95: the tuner is not tuned, with power (log 15). -/
def Tuner.untune (t : Tuner) : Tuner :=
  { t with
      base := none, correction := 0, aft := .off, readings := 0, aftReady := false, lockLimit := none
      signal := if t.signal = .unpowered then .unpowered else .noLock, stationCode := 0 }

/-- R85, R95: the tuner is not tuned, so the decoder has no sync to read by (R99). -/
def State.untune (s : State) : State :=
  { s with tuner := s.tuner.untune, decoder := s.decoder.leaveSync }

/-- R78: the effective N changed by the AFT: the synthesizer is given it and the lock limit starts. A step that
leaves the effective N as it is starts no limit (R82, log 62). -/
def Tuner.step (t : Tuner) (correction : Int) (now : Nat) : Tuner :=
  let t' := Tuner.followBand { t with correction := correction }
  if t'.effectiveN = t.effectiveN then t' else { t' with lockLimit := some (now + Config.lockLimit) }

/-! ### The selection (R84) -/

/-- R84: a selected preset no longer in use becomes the divisor of the tuned base, or the preset's last
divisor read. A preset in use has its divisor read. -/
def State.fixSelection (s : State) : State :=
  match s.tuner.selection with
  | .preset p =>
    if (s.preset p).inUse then s.readPreset p
    else
      let d := match s.tuner.base with
        | some b => b.divisor
        | none => divisorClamp s.tuner.lastDivisor
      { s with tuner.selection := .direct d }
  | _ => s

/-- R84: the tuned base that a tune of the selection would make. -/
def State.selectionBase (s : State) : Option TunedBase :=
  match s.tuner.selection with
  | .none => none
  | .preset p => some ((s.preset p).base p)
  | .direct d => some ⟨d, 0, 0, false⟩

/-- R85, R89, R95: a tune of the selection; with the selection NONE nothing is tuned. -/
def State.tuneSelection (s : State) : State :=
  let s := s.fixSelection
  match s.tuner.selection with
  | .none => s.untune
  | .preset p => s.tunePreset p
  | .direct d => s.tune ⟨d, 0, 0, false⟩ 0 false

/-- R84: the re-read at a GIVE or a revocation of PRESETS. A SELECT that waits on the AFT which its tune ends waits
for the new tuning (R82, R89, log 63). -/
def State.rereadSelection (s : State) : State :=
  let fixed := s.fixSelection
  match fixed.tuner.selection with
  | .preset p =>
    if fixed.tuner.owner = .view ∧ fixed.tuner.base ≠ some ((fixed.preset p).base p) then
      fixed.tunePreset p
    else fixed
  | _ => fixed

/-! ### Power (R80, R82, R85) -/

/-- The results of a SELECT (11.5). -/
def selectResults (t : Tuner) : List Byte :=
  le16 (match t.selection with | .preset p => p | _ => 0) ++ le16 (t.effectiveN.getD 0)
    ++ le16 t.band.code ++ le16 t.aft.code ++ le16 t.signal.code

/-- The results of a FINE (11.5). -/
def fineResults (t : Tuner) (stored : Bool) : List Byte :=
  le16 (t.effectiveN.getD 0) ++ le16 t.band.code ++ le16 t.aft.code ++ le16 t.signal.code
    ++ le16 (bit stored)

/-- The kind of the request in flight on the TUNER lane. -/
def State.tunerKind (s : State) : Option Nat :=
  match s.requests.tunerLane with
  | none => none
  | some n => (s.requests.slots[n]).map (·.kind)

/-- R89, R91: a SELECT or FINE in flight finishes with the tuning as it stands. -/
def State.finishTuning (s : State) (o : ReqOutcome) (why : Reason) : State :=
  match s.tunerKind with
  | some 10 => s.finishLane .tuner o why (if o = .done then selectResults s.tuner else [])
  | some 11 =>
    s.finishLane .tuner o why (if o = .done then fineResults s.tuner s.tuner.fineStored else [])
  | _ => s

/-- R80, R82: the tuner without power. The tuned station code and the band, which no rule gives for an untuned tuner,
stay those last in force, also where power returns with nothing tuned; the lock limit stops (DESIGN CHOICE, log 93). -/
def Tuner.unpower (t : Tuner) : Tuner :=
  { t with
      signal := .unpowered, base := none, correction := 0, aft := .off, readings := 0
      aftReady := false, lockLimit := none }

/-- R80, R85: the tuner loses power: the label context is cleared (R108), the vote window emptied (R123),
and a SELECT or FINE in flight ends (log 16). -/
def State.unpowerTuner (s : State) : State :=
  let s := { s with tuner := s.tuner.unpower, decoder := s.decoder.powerDown }
  (s.clearLabel.emptyVotes).finishTuning .done .none

/-- R85: the tuner is powered in ACTIVE, and in QUIET while it has an owner. -/
def State.tunerWanted (s : State) : Bool :=
  s.power.state == .active || (s.power.state == .quiet && s.tuner.owner != .none)

/-- R85: the tuner's power follows the power state and the owner. -/
def State.syncTunerPower (s : State) : State :=
  if s.tunerWanted then s.powerTuner
  else if s.tuner.signal = .unpowered then s
  else s.unpowerTuner

/-! ### The owner (R85 to R87) -/

/-- R85, R86: the owner after RECORD or SCAN: VIEW while the host's need is ON, NONE otherwise. -/
def State.returnedOwner (s : State) : TunerOwner := if s.power.hostNeed then .view else .none

/-- R86: the owner leaves RECORD; a VIEW owner comes back to the selection by a tune if it differs, be it in the
preset's number alone (log 27). With the selection NONE there is no tune to make, and the tuning stands. -/
def State.releaseRecord (s : State) : State :=
  if s.tuner.owner = .record then
    let s := { s with tuner.owner := s.returnedOwner }
    if s.tuner.owner = .view then
      let s := s.fixSelection
      if s.selectionBase.isSome ∧ s.tuner.base ≠ s.selectionBase then s.tuneSelection else s
    else s.syncTunerPower
  else s

/-- R86: a manual recording takes the tuner. -/
def State.takeManual (s : State) : State :=
  let before := s.tuner.owner
  let s := s.finishTuning .superseded .none
  let s := { s with tuner.owner := .record, tuner.holder := .manual }
  if before = .none then s.tuneSelection else s

/-- R87: a seek ends because of another claim, which the clock is told of (R123). -/
def State.endSeek (s : State) : State :=
  if s.tuner.seek.isSome then
    { s with tuner.seek := none, tuner.owner := .none, clock.seek := none }
  else s

/-- R123: the clock releases the tuner at the end of a seek. -/
def State.releaseSeek (s : State) : State := s.endSeek.syncTunerPower

/-- R87: the clock claims the tuner for preset `p`; none when the claim is declined. -/
def State.claimSeek (s : State) (p : Nat) : Option State :=
  if s.power.state = .quiet ∧ s.tuner.owner = .none ∧ s.presetInUse p then
    some ({ s with tuner.owner := .seek, tuner.seek := some p }.tunePreset p)
  else none

/-! ### The scan (R92 to R96) -/

/-- The results of a SCAN (11.5). -/
def scanResults (c : Scan) (full : Bool) : List Byte :=
  le16 c.stored ++ le16 (bit full) ++ le16 c.step

/-- R93, R95, R96: the scan context and the engine hold are gone, and the slot finishes. The results of a SUPERSEDED
scan carry the last step divisor as those of a PREEMPTED one do, which R96 leaves open (DESIGN CHOICE, log 78). -/
def State.dropScan (s : State) (o : ReqOutcome) (why : Reason) (full : Bool) : State :=
  match s.tuner.scan with
  | none => s
  | some c =>
    let s := { s with tuner.scan := none, claims.engine := s.claims.engine.put .presets false }
    s.finishLane .tuner o why (scanResults c full)

/-- R95: a selected preset no longer in use after a scan becomes the divisor it last held. -/
def State.repairSelection (s : State) : State :=
  match s.tuner.selection with
  | .preset p =>
    if (s.preset p).inUse then s
    else { s with tuner.selection := .direct (divisorClamp s.tuner.lastDivisor) }
  | _ => s

/-- R95: the scan ends DONE. -/
def State.endScan (s : State) (full : Bool) : State :=
  let s := s.dropScan .done .none full
  let s := { s with tuner.owner := s.returnedOwner }.repairSelection
  if s.tuner.owner = .view then s.tuneSelection else s.syncTunerPower

/-- R93: a scan step at a divisor, or the end of the scan past the range. -/
def State.scanStep (s : State) (c : Scan) (divisor : Nat) : State :=
  if Config.divMax < divisor then s.endScan false
  else
    let c' : Scan := { c with
      step := divisor, phase := .dwell, limit := some (s.after Config.scanDwell), code := none }
    { s with tuner.scan := some c' }.tune ⟨divisor, 0, 0, false⟩ 0 true

/-- R94: the first grid divisor above the centred divisor plus 24. -/
def gridAfter (centred : Nat) : Nat :=
  Config.divMin + Config.scanStep * ((centred + 24 - Config.divMin) / Config.scanStep + 1)

/-- R92, R94: the lowest-numbered preset not in use. -/
def State.lowestUnused (s : State) : Option Nat :=
  presetNumbers.find? fun p => !(s.preset p).inUse

/-- R94: some preset in use has a divisor within 24 of the centred divisor or the same station code. -/
def State.isDuplicate (s : State) (centred code : Nat) : Bool :=
  presetNumbers.any fun p =>
    let q := s.preset p
    q.inUse && ((q.divisor ≤ centred + 24 && centred ≤ q.divisor + 24)
      || (code != 0 && q.station == code))

/-- R94: the record of a preset that the scan stores: in use, AFT, source SCAN. -/
def scanPreset (centred code : Nat) : List Byte :=
  padTo 16 ([0x0B, 0] ++ le16 centred ++ le16 code)

/-- R94, third phase: the duplicate check, the store, and the next step or the end. -/
def State.scanStore (s : State) (c : Scan) (code : Nat) : State :=
  let s := s.readPresets
  if s.isDuplicate c.centred code then s.scanStep c (gridAfter c.centred)
  else
    match s.lowestUnused with
    | none => s.endScan true
    | some p =>
      let s := (s.writeRecord (Config.presetBase p) (scanPreset c.centred code)).raise .tuner 1
      let c := { c with stored := c.stored + 1 }
      let s := { s with tuner.scan := some c }
      if s.lowestUnused.isNone then s.endScan true else s.scanStep c (gridAfter c.centred)

/-- R94: the scan's AFT has ended. -/
def State.scanAftEnd (s : State) (c : Scan) (ok : Bool) : State :=
  if ok then
    let c := { c with centred := (c.step + s.tuner.correction).toNat, phase := ScanPhase.codeWait }
    match c.code with
    | some code => s.scanStore c code
    | none => { s with tuner.scan := some { c with limit := some (s.after Config.scanCode) } }
  else s.scanStep c (c.step + Config.scanStep)

/-- R94: a station is found at the step, so its AFT begins. -/
def State.scanFound (s : State) (c : Scan) : State :=
  { s with
      tuner.scan := some { c with phase := .aft, limit := none }
      tuner.aft := .running, tuner.readings := 0, tuner.aftReady := true }

/-- R94, R103: the decoder reports a station code. -/
def State.reportCode (s : State) (code : Nat) : State :=
  match s.tuner.scan with
  | none => s
  | some c =>
    if c.code.isSome then s
    else
      let c := { c with code := some code }
      if c.phase = .codeWait then s.scanStore c code
      else { s with tuner.scan := some c }

/-! ### Lock, sync and AFT (R79 to R82) -/

/-- R80: the signal state becomes SYNC or leaves it; a station at a scan step is found (R93). -/
def State.setSignal (s : State) (g : Signal) : State :=
  let s := if s.tuner.signal = .sync ∧ g ≠ .sync then
      { s with decoder := s.decoder.leaveSync } else s
  let s := { s with tuner.signal := g }
  match s.tuner.scan with
  | some c => if c.phase = .dwell ∧ g = .sync then s.scanFound c else s
  | none => s

/-- R93: no TUNER/PLL cause is raised for a scan step's divisor (log 26). -/
def State.dwelling (s : State) : Bool :=
  match s.tuner.scan with
  | some c => c.phase == .dwell
  | none => false

/-- R79, R89, R91: a lock report, `sync` what the sync detector reports. It ends a SELECT with no AFT to run, and a
FINE in any case. With nothing tuned it changes nothing, although the signal then reads NO_LOCK, from which R79's row
leads to LOCKED or SYNC (DESIGN CHOICE, log 15). -/
def State.lockReport (s : State) (sync : Bool) : State :=
  if s.tuner.base.isNone then s
  else
    let s := { s with tuner.lockLimit := none }
    match s.tuner.signal with
    | .acquiring | .noLock =>
      let s := { s with tuner.aftReady := true }.setSignal (if sync then .sync else .locked)
      if s.tuner.aft = .off ∨ s.tunerKind = some 11 then s.finishTuning .done .none else s
    | _ => s

/-- R79: NO_LOCK, with its cause. -/
def State.loseLock (s : State) : State :=
  let dwelling := s.dwelling
  let s := s.setSignal .noLock
  if dwelling then s else s.raise .tuner 0

/-- R79: a report of loss of lock. -/
def State.lockLoss (s : State) : State :=
  match s.tuner.signal with
  | .locked | .sync => s.loseLock
  | _ => s

/-- R79, R89, R91: the lock limit runs out. -/
def State.lockLimitOut (s : State) : State :=
  if s.tuner.lockLimit.isSome then
    let s := { s with tuner.lockLimit := none }
    match s.tuner.signal with
    | .acquiring => (s.loseLock).finishTuning .done .none
    | .locked | .sync => s.loseLock
    | _ => s
  else s

/-- R80: the sync detector's report. -/
def State.syncReport (s : State) (present : Bool) : State :=
  match s.tuner.signal with
  | .locked => if present then s.setSignal .sync else s
  | .sync => if present then s else s.setSignal .locked
  | _ => s

/-- R82: the AFT ends. -/
def State.aftEnd (s : State) (ok : Bool) : State :=
  let s := { s with tuner.aft := if ok then .ok else .fail }
  match s.tuner.scan with
  | some c => s.scanAftEnd c ok
  | none => s.finishTuning .done .none

/-- R81: the correction after a reading. -/
def correctionAfter (r : AftReading) (c : Int) : Int :=
  match r with
  | .low => if c < 16 then c + 1 else c
  | .high => if -16 < c then c - 1 else c
  | .centre => c
  | .none => c

/-- R81, R82: one reading of the discriminator. -/
def State.aftReading (s : State) (r : AftReading) : State :=
  if s.tuner.aft = .running ∧ s.tuner.aftReady then
    let n := s.tuner.readings + 1
    let s := { s with tuner.readings := n }
    match r with
    | .centre => s.aftEnd true
    | r =>
      let s := { s with tuner := s.tuner.step (correctionAfter r s.tuner.correction) s.timeBase }
      if 40 ≤ n then
        { s with tuner := s.tuner.step 0 s.timeBase }.aftEnd false
      else s
  else s

/-- R93: the dwell of a scan step runs out. -/
def State.dwellOut (s : State) : State :=
  match s.tuner.scan with
  | some c =>
    if c.phase = .dwell ∧ c.limit.isSome then s.scanStep c (c.step + Config.scanStep) else s
  | none => s

/-- R94: no station code came. -/
def State.codeOut (s : State) : State :=
  match s.tuner.scan with
  | some c => if c.phase = .codeWait ∧ c.limit.isSome then s.scanStore c 0 else s
  | none => s

/-! ### Requests (R88 to R92) -/

/-- R88: the seek that a request would claim ends, before the request is checked. The owner is NONE from then on until
the request sets its own. R87 gives the owner of a SCAN that is taken alone, and R88 has a refused one leave the tuning
as it was: a SCAN refused by check 6 or 7 in QUIET leaves the owner NONE here, so that the tuner loses power in its
event (DESIGN CHOICE, log 92). -/
def State.claimFromSeek (s : State) (scan : Bool) : State :=
  if scan ∨ s.power.state = .active then s.endSeek else s

/-- R88, R96: a scan in flight ends by a tuner request taken; the owner is NONE until that request sets its own. -/
def State.cutScan (s : State) : State :=
  if s.tuner.scan.isSome then { s.dropScan .superseded .none false with tuner.owner := .none } else s

/-- R88: a SCAN passes its checks: the request in flight is superseded, a scan ends under R96. -/
def State.takeTuner (s : State) (n : Fin 16) : State := s.cutScan.takeLane .tuner n

/-- R88, R96: a SELECT or FINE passes its checks. In QUIET a scan that it ends leaves the tuner without power and
not tuned (R85) before it acts. -/
def State.takeViewing (s : State) (n : Fin 16) : State := s.cutScan.syncTunerPower.takeLane .tuner n

/-- R89: a qualifying preset for NEXT and PREV. -/
def State.selectable (s : State) (p : Nat) : Bool := (s.preset p).inUse && !(s.preset p).skip

/-- R89: the presets in the order NEXT tries them from preset `p` (0 from a divisor or NONE). -/
def nextOrder (p : Nat) : List Nat :=
  (presetNumbers.filter fun q => p < q) ++ presetNumbers.filter fun q => q ≤ p

/-- R89: the presets in the order PREV tries them from preset `p` (0 from a divisor or NONE). -/
def prevOrder (p : Nat) : List Nat :=
  (presetNumbers.filter fun q => q < p).reverse ++ (presetNumbers.filter fun q => p ≤ q).reverse

/-- The selected preset, 0 for a divisor or NONE. -/
def Tuner.selectedPreset (t : Tuner) : Nat :=
  match t.selection with | .preset p => p | _ => 0

/-- R88, R89: the selection a SELECT asks for, or the reason it is refused. -/
def State.selectTarget (s : State) (r : Request) : Except Reason Selection :=
  match r.byte 0 with
  | 0 =>
    let p := r.word 2
    if p = 0 ∨ 64 < p then .error .badArgument
    else if (s.preset p).inUse then .ok (.preset p) else .error .emptyPreset
  | 1 =>
    match (nextOrder s.tuner.selectedPreset).find? s.selectable with
    | some p => .ok (.preset p)
    | none => .error .emptyPreset
  | 2 =>
    match (prevOrder s.tuner.selectedPreset).find? s.selectable with
    | some p => .ok (.preset p)
    | none => .error .emptyPreset
  | 3 => .ok (.direct (divisorClamp (r.word 2)))
  | _ => .error .badArgument

/-- R90: the results of a SELECT or FINE taken in QUIET show AFT state OFF. -/
def Tuner.quietView (t : Tuner) : Tuner := { t with aft := .off }

/-- R88 to R90: SELECT. -/
def State.select (s : State) (n : Fin 16) (r : Request) : State :=
  let s := s.claimFromSeek false
  if s.tuner.owner = .record then s.finishSlot n .refused .tunerHeld []
  else
    match s.selectTarget r with
    | .error why => s.finishSlot n .refused why []
    | .ok sel =>
      let s := s.takeViewing n
      let s := { s with tuner.selection := sel }.fixSelection
      if s.power.state = .active then
        { s with tuner.owner := .view }.tuneSelection
      else s.finishSlot n .done .none (selectResults s.tuner.quietView)

/-- R91: the preset's record with the new fine offset and its AFT flag clear, its other bits as held. -/
def State.finePreset (s : State) (p : Nat) (fine : Int) : List Byte :=
  let a := Config.presetBase p
  [s.byte a &&& 0x0D, signed8 fine] ++ s.bytes (a + 2) 4 ++ zeros 10

/-- R91: the divisor of the selection. -/
def State.selectionDivisor (s : State) : Nat :=
  match s.tuner.selection with
  | .preset p => (s.preset p).divisor
  | .direct d => d
  | .none => Config.divMin

/-- R91: the station code of a tune of the selection. -/
def State.selectionStation (s : State) : Nat :=
  match s.tuner.selection with
  | .preset p => (s.preset p).station
  | _ => 0

/-- R91: the store of FINE, if its flag is set and the selection is a preset. -/
def State.storeFine (s : State) (fine : Int) (store : Bool) : State :=
  match s.tuner.selection with
  | .preset p =>
    if store then
      { s.writeRecord (Config.presetBase p) (s.finePreset p fine) with tuner.fineStored := true }
    else { s with tuner.fineStored := false }
  | _ => { s with tuner.fineStored := false }

/-- R88, R90, R91: FINE. -/
def State.fine (s : State) (n : Fin 16) (r : Request) : State :=
  let s := s.claimFromSeek false
  let store := r.byte 1 != 0
  let fine := fineClamp (r.signed 0)
  if s.tuner.owner = .record then s.finishSlot n .refused .tunerHeld []
  else if s.tuner.selection = .none then s.finishSlot n .refused .badArgument []
  else if store ∧ s.tuner.selectedPreset ≠ 0 ∧ s.claims.host.presets then
    s.finishSlot n .refused .sectionHeld []
  else
    let s := ((s.takeViewing n).fixSelection).storeFine fine store
    if s.power.state = .active then
      { s with tuner.owner := .view }.tune
        ⟨s.selectionDivisor, fine, s.tuner.selectedPreset, false⟩ s.selectionStation false
    else s.finishSlot n .done .none (fineResults s.tuner.quietView s.tuner.fineStored)

/-- R92: every preset becomes not in use, the selected one's divisor having been read. Its other fields become 0
(log 68). -/
def State.clearPresets (s : State) : State :=
  s.readPresets.writeRecord (Config.presetBase 1) (zeros 1024)

/-- R88, R92: SCAN. R95 gives no last step divisor for a scan that makes no step: the model answers 0
(log 56). -/
def State.scan (s : State) (n : Fin 16) (r : Request) : State :=
  let s := s.claimFromSeek true
  if s.tuner.owner = .record then s.finishSlot n .refused .tunerHeld []
  else if 1 < r.byte 0 then s.finishSlot n .refused .badArgument []
  else if s.claims.host.presets then s.finishSlot n .refused .sectionHeld []
  else
    let s := s.takeTuner n
    let s := { s with claims.engine := s.claims.engine.put .presets true }
    let s := if r.byte 0 = 1 then s.clearPresets else s
    let c : Scan :=
      { replace := r.byte 0 == 1, step := 0, phase := .dwell, limit := none, centred := 0
        code := none, stored := 0 }
    let s := { s with tuner.owner := .scan, tuner.scan := some c }
    if s.lowestUnused.isNone then s.endScan true else s.scanStep c Config.divMin

/-! ### The scheduler's orders (R86) -/

/-- R86: TAKE of preset `p` for entry `e`. -/
def State.tunerTake (s : State) (e : Fin 16) (p : Nat) : State :=
  let s := s.dropScan .failed .preempted false
  let s := s.endSeek.finishTuning .failed .preempted
  let s := { s with tuner.owner := .record, tuner.holder := .program e }
  if s.presetInUse p then s.tunePreset p else s.note (.emptyPreset e)

/-- R86: preset `p` is tuned, and none of the fields that a tune takes has changed since; its skip flag and its
source are not compared (log 27). -/
def State.tunedTo (s : State) (p : Nat) : Bool :=
  s.tuner.base == some ((s.preset p).base p) && s.tuner.stationCode == (s.preset p).station

/-- R86: RETUNE of preset `p` for entry `e`. -/
def State.tunerRetune (s : State) (e : Fin 16) (p : Nat) : State :=
  let s := { s with tuner.owner := .record, tuner.holder := .program e }
  if s.presetInUse p then
    if s.tunedTo p then s.readPreset p else s.tunePreset p
  else s.note (.emptyPreset e)

/-! ### Resets and starts (R97, R98) -/

/-- R97: BLOCK_RESET of TUNER. With owner VIEW and the selection NONE the tuner is not tuned (log 15). -/
def State.resetTuner (s : State) : State :=
  let s := s.dropScan .superseded .none false
  let s := (s.finishLane .tuner .superseded .none []).endSeek
  let s := { s with
    tuner.aft := .off, tuner.correction := 0, tuner.readings := 0, tuner.aftReady := false
    tuner.lockLimit := none }
  let s := { s with tuner := s.tuner.followBand }
  if s.power.state = .active ∧ s.power.hostNeed then
    { s with tuner.owner := .view }.tuneSelection
  else { s with tuner.owner := .none }.syncTunerPower

/-- R98: the mains-fail warning removes the tuner's power. The lane is emptied by the request unit. -/
def Tuner.mainsFail (t : Tuner) : Tuner :=
  { t.unpower with owner := .none, scan := none, seek := none }

/-- R98: the values after a start. `cold`: a cold start. The selected preset's last divisor read is kept with the
selection (log 27). -/
def Tuner.start (t : Tuner) (cold : Bool) : Tuner :=
  if cold then Tuner.reset
  else { Tuner.reset with selection := t.selection, lastDivisor := t.lastDivisor }

end Sys2Proof.Machine
end

