-- ==== Sys2Proof/Machine/Clock.lean ====
section
/-! DEFINITION. The clock (chapter 7): the counting of seconds, SET_CLOCK, the broadcast vote, the clock
seek, its settings. What it hands the scheduler are notes (log 21). -/
namespace Sys2Proof.Machine

def ClockState.code : ClockState → Nat
  | .unset => 0 | .host => 1 | .broadcast => 2

/-- R124: the CLOCK group asks for its STATUS cause in this event. -/
def State.askClock (s : State) : State := { s with scratch.askClock := true }

/-- R115: the clock state changes, which asks for the group's cause (R124). -/
def State.setClockState (s : State) (c : ClockState) : State :=
  if s.clock.state = c then s else { s with clock.state := c }.askClock

/-- R121: a step from the present calendar to `new` at `phase`. -/
def State.stepCalendar (s : State) (new phase : Nat) (state : ClockState) : State :=
  let old := s.clock.calendar.seconds
  let s := { s with clock.calendar := calendarAt new phase, clock.running := true }
  ((s.setClockState state).askClock).note (.step old new)

/-! ### The counting of seconds (R113) -/

/-- R113, R121: a second of the calendar completes. While the scheduler is unpowered nothing is handed. -/
def State.secondComplete (s : State) : State :=
  if s.clock.running then
    if rangeEnd ≤ s.clock.calendar.seconds + 1 then
      let s := { s with clock.calendar.phase := 0, clock.running := false }.setClockState .unset
      if s.on then s.note .notice else s
    else
      let s := { s with clock.calendar := s.clock.calendar.tick }
      if s.on ∧ s.clock.calendar.sec % 60 = 0 then (s.note .tick).note .seekTest else s
  else s

/-- The cycles up to the end of the calendar's present second. -/
def State.toSecondEnd (s : State) : Nat := Config.hz - s.clock.calendar.phase

/-! ### The clock seek (R122, R123) -/

/-- R122: the conditions of a seek at a minute tick. -/
def State.seekDue (s : State) : Bool :=
  s.power.state == .quiet && s.clock.autoSet && !s.clock.suspended && s.clock.timePreset != 0
    && s.clock.calendar.hour == s.clock.seekHour && s.clock.lastSeek != some s.clock.calendar.day
    && s.clock.seek.isNone

/-- R122: at a minute tick the clock claims the tuner, if a seek is due. -/
def State.seekTest (s : State) : State :=
  if s.seekDue then
    match s.claimSeek s.clock.timePreset with
    | none => s
    | some t =>
      { t with
          clock.seek := some ⟨t.clock.timePreset, t.after Config.seekLimit⟩
          clock.lastSeek := some t.clock.calendar.day }
  else s

/-- R123: a running seek ends, and the clock releases the tuner. -/
def State.endClockSeek (s : State) : State := if s.clock.seek.isSome then s.releaseSeek else s

/-! ### SET_CLOCK (R116) -/

/-- R116: the date asked for. -/
def setClockDate (r : Request) : Civil := ⟨r.word 0, r.byte 2, r.byte 3⟩

/-- R116: the arguments are a valid date and time. -/
def setClockOk (r : Request) : Bool :=
  validDate (setClockDate r) && r.byte 4 ≤ 23 && r.byte 5 ≤ 59 && r.byte 6 ≤ 59

/-- R116: the value asked for, in seconds from 1980-01-01. -/
def setClockSeconds (r : Request) : Nat :=
  dayNumber (setClockDate r) * 86400 + r.byte 4 * 3600 + r.byte 5 * 60 + r.byte 6

/-- A date and time as the results of SET_CLOCK show it: day number and second of the day. -/
def calendarResult (c : Calendar) : List Byte := le16 c.day ++ le32 c.sec

/-- R116: SET_CLOCK. -/
def State.setClock (s : State) (n : Fin 16) (r : Request) : State :=
  if setClockOk r then
    let before := s.clock.calendar
    let suspended := s.clock.suspended
    let s := s.stepCalendar (setClockSeconds r) 0 .host
    let s := { s with clock.implausible := 0, clock.suspended := false }
    let s := if suspended then s.askClock else s
    (s.touch 4).finishSlot n .done .none (calendarResult before ++ calendarResult s.clock.calendar)
  else s.finishSlot n .refused .badArgument []

/-! ### The broadcast vote (R117 to R120) -/

/-- R118: a candidate advanced to the present, in cycles from 1980-01-01. It is advanced by the time base, which
goes on where uptime holds at its greatest value; the spec leaves that point open (log 35). -/
def Candidate.advanced (c : Candidate) (now : Nat) : Int := c.local_ * Config.hz + (now - c.stamp : Nat)

/-- R118: two advanced candidates agree. -/
def votesAgree (a b : Int) : Bool := (a - b).natAbs ≤ Config.hz

/-- R118: the accepted time that the window gives, in cycles, or none. -/
def acceptedTime (window : List Candidate) (now : Nat) : Option Int :=
  match window.map (·.advanced now) with
  | [a, b] => if votesAgree a b then some b else none
  | [a, b, c] =>
    if votesAgree a c || votesAgree b c then some c
    else if votesAgree a b then some b
    else none
  | _ => none

/-- R120: an implausible accepted time. -/
def State.implausibleVote (s : State) : State :=
  let n := s.clock.implausible + 1
  let s := { s with clock.implausible := min 3 n }
  if 3 ≤ n then
    ((({ s with clock.suspended := true, clock.window := [] }.raise .clock 1).askClock).touch 4).endClockSeek
  else s

/-- R119: an accepted time, in cycles. -/
def State.acceptTime (s : State) (t : Int) : State :=
  let d := (t - s.clock.calendar.cycles).natAbs
  if t < 0 ∨ (rangeEnd * Config.hz : Nat) ≤ t then s
  else if d < 2 * Config.hz then
    let previous := s.clock.state
    let s := { s with clock.implausible := 0 }
    let s := if previous = .unset then (s.setClockState .broadcast).note .notice else s
    s.endClockSeek
  else if 21600 * Config.hz < d ∧ s.clock.state ≠ .unset then s.implausibleVote
  else
    let n := t.toNat
    let s := s.stepCalendar (n / Config.hz) (n % Config.hz) .broadcast
    ((({ s with clock.implausible := 0 }.raise .clock 0).touch 4)).endClockSeek

/-- R117, R118: a candidate is entered and the vote is made. -/
def State.timeCandidate (s : State) (universal : Nat) (offset : Int) : State :=
  if s.clock.autoSet ∧ !s.clock.suspended then
    let c : Candidate := ⟨universal + offset * 1800, s.timeBase⟩
    let kept := if 3 ≤ s.clock.window.length then s.clock.window.drop 1 else s.clock.window
    let window := kept ++ [c]
    match acceptedTime window s.timeBase with
    | none => { s with clock.window := window }
    | some t => { s with clock.window := [] }.acceptTime t
  else { s with clock.window := [] }

/-! ### Settings and starts (R124, R125) -/

/-- R124: the clock reads its settings. `give`: at a GIVE, when a window is emptied and a seek ended. -/
def State.clockSettings (s : State) (x : Settings) (give : Bool) : State :=
  let s := { s with
    clock.autoSet := x.autoSet, clock.seekHour := x.seekHour, clock.timePreset := x.timePreset }
  if give then
    let s := if x.autoSet then s else s.emptyVotes
    if x.autoSet ∧ x.timePreset ≠ 0 then s else s.endClockSeek
  else s

/-- R125: the values after a start. `cold`: a cold start. -/
def Clock.start (c : Clock) (cold : Bool) : Clock :=
  if cold then Clock.reset else { c with window := [], seek := none }

end Sys2Proof.Machine
end

