-- ==== Sys2Proof/Machine/Power.lean ====
section
/-! DEFINITION. The power controller (chapter 10): the needs, the choice of ACTIVE and QUIET with what
follows from it, the settle. -/
namespace Sys2Proof.Machine

def PowerState.code : PowerState → Nat
  | .active => 0 | .quiet => 1 | .retain => 2

def WakeReason.code : WakeReason → Nat
  | .none => 0 | .hostOn => 1 | .programPreroll => 2 | .cassetteIn => 3 | .transportRequest => 4
  | .mainsReturn => 5

def Supply.code : Supply → Nat
  | .off => 0 | .settling => 1 | .ready => 2

def StartKind.code : StartKind → Nat
  | .cold => 0 | .warm => 1 | .line => 2

/-- R167: some need stands. -/
def Power.needed (p : Power) : Bool := p.transportNeed || p.schedulerNeed || p.hostNeed

/-- R15, R170: the transport's need is that of a housing move. -/
def State.housingNeed (s : State) : Bool :=
  s.requests.transportLane.isNone &&
    (match s.transport.path with
      | some p => p.goal == .house
      | none => false)

/-- R170: the wake reason of the needs that stand, the first row of the table that applies. A transport need that
no row names wakes with TRANSPORT_REQUEST: that of the mode STOPPED where a BLOCK_RESET leaves FAULT_HOLD with the cam
at FULL (DESIGN CHOICE, log 90), and that of the final PLAY leg of a LOCATE that arrives as it is taken in LOADED
(DESIGN CHOICE, log 96). -/
def State.wakeReason (s : State) : WakeReason :=
  if s.power.hostNeed then .hostOn
  else if s.power.schedulerNeed then .programPreroll
  else if s.housingNeed then .cassetteIn
  else .transportRequest

/-- R168, R169: the power state becomes ACTIVE. A clock seek ends (R87). -/
def State.becomeActive (s : State) : State :=
  let s := { s with
    power.state := .active, power.supply := .settling
    power.settle := some (s.after Config.settle), power.wake := s.wakeReason }
  s.powerTuner.endSeek

/-- R168, R169: the power state becomes QUIET. An owner VIEW becomes NONE (R85). -/
def State.becomeQuiet (s : State) : State :=
  let s := { s with power.state := .quiet, power.supply := .off, power.settle := none }
  let s := if s.tuner.owner = .view then { s with tuner.owner := .none } else s
  s.syncTunerPower

/-- R168: the power state follows the needs while the mains is present. -/
def State.syncPower (s : State) : State :=
  match s.power.state with
  | .retain => s
  | .quiet => if s.power.needed then s.becomeActive else s
  | .active => if s.power.needed then s else s.becomeQuiet

/-- R169: the mechanism supply is READY. -/
def State.supplyReady (s : State) : Bool := s.power.supply == .ready

/-- R167: the scheduler declares or withdraws its need. The power state follows at once, also where one event
withdraws the last need and raises another: QUIET first, then ACTIVE with a new settle and wake reason (log 89). -/
def State.setSchedulerNeed (s : State) (b : Bool) : State :=
  { s with power.schedulerNeed := b }.syncPower

/-- R171, R85: the host need becomes ON. -/
def State.hostOn (s : State) : State :=
  if s.power.hostNeed then s
  else
    let s := { s with power.hostNeed := true }.syncPower
    if s.tuner.owner = .none then { s with tuner.owner := .view }.tuneSelection else s

/-- R169: the settle timer runs out. -/
def State.settled (s : State) : State :=
  if s.power.settle.isSome then { s with power.supply := .ready, power.settle := none } else s

end Sys2Proof.Machine
end

