-- ==== Sys2Proof/Machine/Remaining.lean ====
section
/-! DEFINITION. The remaining calculator's own state (chapter 4): pulse timing, reel revolutions,
measurements, the fraction and the minutes. -/
namespace Sys2Proof.Machine

/-- R66: both open revolutions are voided. -/
def Remaining.void (r : Remaining) : Remaining := { r with supply := none, takeUp := none }

/-- R66: both open revolutions are voided and the pulse timing restarts at 0. -/
def Remaining.halt (r : Remaining) : Remaining := { r.void with run := 0 }

/-- R65: one more control pulse in an open revolution. -/
def Revolution.count1 (v : Revolution) : Revolution := { v with count := v.count + 1 }

/-- R65, R66: a control pulse, `us` after the one before it. -/
def Remaining.controlPulse (r : Remaining) (d : Dir) (us : Nat) : Remaining :=
  if r.run = 0 then { r with run := 1, runDir := d }
  else if r.runDir ≠ d then { r.void with run := 1, runDir := d }
  else if 2 ≤ r.run ∧ 2 * r.interval < us then { r.void with run := 1 }
  else
    { r with
        run := 2, interval := us
        supply := r.supply.map Revolution.count1, takeUp := r.takeUp.map Revolution.count1 }

/-- R65: a reel's phase at a rotation pulse `us` after the last control pulse, at most 1, as numerator and
denominator. -/
def Remaining.phase (r : Remaining) (us : Nat) : Nat × Nat :=
  (min us r.interval, max r.interval 1)

/-- R65: 16 × (k + φ_B − φ_A), rounded with halves up. -/
def Revolution.measure (v : Revolution) (num den : Nat) : Nat :=
  let n : Int := 16 * ((v.count : Int) * v.phaseDen * den + (num : Int) * v.phaseDen
    - (v.phaseNum : Int) * den)
  let d : Int := (v.phaseDen : Int) * den
  ((2 * n + d) / (2 * d)).toNat

/-- R65, R66: the revolution that a rotation pulse opens, where it may. `steady`: the counter source is
READ and a speed factor is in force. -/
def Remaining.opening (r : Remaining) (us : Nat) (steady : Bool) : Option Revolution :=
  if 2 ≤ r.run ∧ steady then
    some ⟨r.runDir, (r.phase us).1, (r.phase us).2, 0⟩
  else none

/-- The open revolution of a reel. -/
def Remaining.revolution (r : Remaining) : Reel → Option Revolution
  | .supply => r.supply
  | .takeUp => r.takeUp

/-- R65: the open revolution of a reel replaced. -/
def Remaining.setRevolution (r : Remaining) (reel : Reel) (v : Option Revolution) : Remaining :=
  match reel with
  | .supply => { r with supply := v }
  | .takeUp => { r with takeUp := v }

/-- R67: a measurement recorded. -/
def Remaining.record (r : Remaining) (reel : Reel) (m : Measure) : Remaining :=
  match reel with
  | .supply => { r with ks := some m }
  | .takeUp => { r with ku := some m }

/-- R69: a measurement brought to STANDARD pitch, halves rounded up. -/
def Measure.normal (m : Measure) : Nat := (2 * m.value + m.factor) / (2 * m.factor)

/-- R70: 1,360². -/
def hubSquare : Nat := Config.hubCircumference * Config.hubCircumference

/-- R70: the numerator. -/
def fractionNum (as : Nat) : Nat := as * as - hubSquare

/-- R70: the denominator. -/
def fractionDen (as au : Nat) : Int := (as * as + au * au : Nat) - (2 * hubSquare : Nat)

/-- R70: the fraction, or none when the computation is inconclusive. -/
def fractionOf (as au : Nat) : Option Nat :=
  if fractionDen as au ≤ 0 then none
  else some (min 1024 (1024 * fractionNum as / (fractionDen as au).toNat))

/-- R71: the minutes remaining at factor m. -/
def minutesLeft (length : Nat) (f : Option Nat) (m : Nat) : Option Nat :=
  if length = 0 then none else f.map fun f => length * f * m / 1024

/-- R71: the minutes recomputed from the fraction and the length in force. -/
def Remaining.minutes (r : Remaining) : Remaining :=
  { r with
      rS := minutesLeft r.mInUse r.fraction 1, rL := minutesLeft r.mInUse r.fraction 2
      rE := minutesLeft r.mInUse r.fraction 3 }

/-- R69 to R71: the computation; with it, whether it gave VALUE. -/
def Remaining.compute (r : Remaining) : Remaining × Bool :=
  match r.ks, r.ku with
  | some ks, some ku =>
    match fractionOf ks.normal ku.normal with
    | some f => ({ r with fraction := some f, last := .value }.minutes, true)
    | none => ({ r with last := .inconclusive }, false)
  | _, _ => (r, false)

/-- What a rotation pulse came to (R67, R70): nothing recorded, a measurement, or a computed VALUE. -/
inductive ReelResult where
  | nothing | recorded | value
  deriving DecidableEq, Repr

/-- R65 to R70: a rotation pulse of a reel, `factor` the speed factor in force, `read` whether the counter
source is READ. A revolution in which no control pulse came has passed over blank tape and records nothing
(R67, R76); one over blank tape in part alone, with the source still READ, is measured (log 67). -/
def Remaining.reelPulse (r : Remaining) (reel : Reel) (us : Nat) (factor : Option Nat) (read : Bool) :
    Remaining × ReelResult :=
  let reopened := r.setRevolution reel (r.opening us (read && factor.isSome))
  match r.revolution reel, factor with
  | some v, some m =>
    let value := v.measure (r.phase us).1 (r.phase us).2
    if v.count ≠ 0 ∧ value ≤ 8191 then
      let (r', new) := (reopened.record reel ⟨value, m⟩).compute
      (r', if new then .value else .recorded)
    else (reopened, .nothing)
  | _, _ => (reopened, .nothing)

/-- R72: the cassette length read from the settings block. With it, whether it has changed. -/
def Remaining.setLength (r : Remaining) (m : Nat) : Remaining × Bool :=
  if m = r.mInUse then (r, false) else ({ r with mInUse := m }.minutes, true)

/-- R68: the invalidation at cassette insertion. -/
def Remaining.insertion (r : Remaining) : Remaining :=
  { r.halt with
      ks := none, ku := none, fraction := none, rS := none, rL := none, rE := none, last := .none }

/-- R75: the values after a start. `kept`: a warm or line start with a cassette present; `m` the length
read from the settings block. -/
def Remaining.start (r : Remaining) (kept : Bool) (m : Nat) : Remaining :=
  if kept then
    { Remaining.reset with
        ks := r.ks, ku := r.ku, fraction := r.fraction, last := r.last, mInUse := m }.minutes
  else { Remaining.reset with mInUse := m }

/-- The minutes at a speed: R_S, R_L or R_E. -/
def Remaining.atSpeed (r : Remaining) : Speed → Option Nat
  | .standard => r.rS
  | .long => r.rL
  | .extended => r.rE

end Sys2Proof.Machine
end

