-- ==== Sys2Proof/Machine/Servo.lean ====
section
/-! DEFINITION. The servo (chapter 2): the drum, the capstan, the lock deadlines, speed detection, the
reel drive and the auto search, each as a function of the servo's own state. `now` is the time base. -/
namespace Sys2Proof.Machine

/-! ### The drum (R30, R31) -/

/-- R30: the drum start command. -/
def Servo.startDrum (v : Servo) (now : Nat) : Servo :=
  { v with drum := .spinningUp, drumRuns := ⟨0, 0, 0, 0⟩, drumLocked := false
           drumDeadline := some ⟨.drumLock, now + Config.drumDeadline⟩, lastFail := none }

/-- R30: the drum stop command. -/
def Servo.stopDrum (v : Servo) : Servo :=
  { v with drum := .off, drumRuns := ⟨0, 0, 0, 0⟩, drumLocked := false, drumDeadline := none }

/-- R31: PHASE_LOCKED is lost, so the relock deadline starts. `out` is the run of revolutions out of band,
which goes on in SPEED_LOCKED (R30). -/
def Servo.loseDrum (v : Servo) (dest : DrumState) (out now : Nat) : Servo :=
  { v with drum := dest, drumRuns := ⟨0, out, 0, 0⟩
           drumDeadline := some ⟨.drumRelock, now + Config.drumDeadline⟩ }

/-- R30: the revolution period lies within ±2% of 40 ms. -/
def drumInBand (periodUs : Nat) : Bool := 39200 ≤ periodUs && periodUs ≤ 40800

/-- R30: the phase error lies within ±1.0 ms. -/
def drumInPhase (phaseUs : Int) : Bool := -1000 ≤ phaseUs && phaseUs ≤ 1000

/-- R30: a run of successive revolutions, one more or broken. -/
def nextRun (holds : Bool) (run : Nat) : Nat := if holds then run + 1 else 0

/-- R30: one drum revolution. Where it completes the run of its period and that of its phase at once, the row
of the period acts; R30 leaves this open (log 51). -/
def Servo.drumRevolution (v : Servo) (periodUs : Nat) (phaseUs : Int) (now : Nat) : Servo :=
  let band := drumInBand periodUs
  let phase := drumInPhase phaseUs
  let r := v.drumRuns
  match v.drum with
  | .off => v
  | .spinningUp =>
    let n := nextRun band r.bandIn
    if 4 ≤ n then { v with drum := .speedLocked, drumRuns := ⟨0, 0, 0, 0⟩ }
    else { v with drumRuns := { r with bandIn := n } }
  | .speedLocked =>
    let out := nextRun (!band) r.bandOut
    let n := nextRun phase r.phaseIn
    if 4 ≤ out then { v with drum := .spinningUp, drumRuns := ⟨0, 0, 0, 0⟩ }
    else if 8 ≤ n then
      { v with drum := .phaseLocked, drumRuns := ⟨0, out, 0, 0⟩, drumLocked := true
               drumDeadline := none }
    else { v with drumRuns := { r with bandOut := out, phaseIn := n } }
  | .phaseLocked =>
    let out := nextRun (!band) r.bandOut
    let n := nextRun (!phase) r.phaseOut
    if 4 ≤ out then v.loseDrum .spinningUp 0 now
    else if 4 ≤ n then v.loseDrum .speedLocked out now
    else { v with drumRuns := { r with bandOut := out, phaseOut := n } }

/-! ### The auto search (R43, R44) -/

/-- R43: the first coarse trial, with `start` the offset to restore. -/
def Servo.beginSearch (v : Servo) (start : Int) : Servo :=
  { v with tracking := -56, auto := .coarse ⟨start, none, -56⟩ }

/-- R44: a search ends early with its starting offset, and becomes `dest`. -/
def Servo.endSearch (v : Servo) (dest : AutoSearch) : Servo :=
  match v.auto with
  | .coarse c => { v with tracking := c.start, auto := dest }
  | .fine c _ _ => { v with tracking := c.start, auto := dest }
  | .pending => { v with auto := dest }
  | .idle => v

/-- R43: the search ends on the best offset found. -/
def Servo.settleSearch (v : Servo) (best : Int) : Servo :=
  { v with tracking := best, auto := .idle }

/-- R43, COARSE: the better of the best so far and a trial. -/
def betterCoarse (best : Option (Int × Nat)) (trial : Int) (envelope : Nat) : Int × Nat :=
  match best with
  | none => (trial, envelope)
  | some (b, e) =>
    if e < envelope then (trial, envelope)
    else if envelope = e ∧ (trial.natAbs < b.natAbs ∨ (trial.natAbs = b.natAbs ∧ trial < b)) then
      (trial, envelope)
    else (b, e)

/-- R42: the limits of the tracking offset. -/
def trackingClamp (x : Int) : Int := clampInt (-63) 63 x

/-- R43, FINE: a trial of `offset` in `stage`. -/
def Servo.fineTrial (v : Servo) (c : SearchCtx) (coarse : Int) (offset : Int) (stage : FineStage) :
    Servo :=
  { v with tracking := offset, auto := .fine { c with trial := offset } coarse stage }

/-- R43, FINE: the next step of `steps` taken, or the end of the search. -/
def Servo.fineStep (v : Servo) (c : SearchCtx) (coarse best : Int) (up : Bool) (steps : Nat) : Servo :=
  let offset := if up then coarse + (steps + 1) else coarse - (steps + 1)
  if 7 ≤ steps ∨ offset < -63 ∨ 63 < offset then v.settleSearch best
  else v.fineTrial c coarse offset (.stepping up (steps + 1))

/-- R43: a trial of the auto search ends with the averaged `envelope`. -/
def Servo.trialEnd (v : Servo) (envelope : Nat) : Servo :=
  match v.auto with
  | .idle => v
  | .pending => v
  | .coarse c =>
    let best := betterCoarse c.best c.trial envelope
    let c' : SearchCtx := { c with best := some best }
    if c.trial < 56 then
      { v with tracking := c.trial + 8, auto := .coarse { c' with trial := c.trial + 8 } }
    else v.fineTrial c' best.1 (trackingClamp (best.1 + 1)) .above
  | .fine c coarse stage =>
    let best := c.best.getD (c.trial, envelope)
    match stage with
    | .above => v.fineTrial c coarse (trackingClamp (coarse - 1)) (.below envelope)
    | .below above =>
      if above ≤ best.2 ∧ envelope ≤ best.2 then v.settleSearch best.1
      else if envelope ≤ above then
        let up := trackingClamp (coarse + 1)
        v.fineStep { c with best := some (up, above) } coarse up true 1
      else v.fineStep { c with best := some (c.trial, envelope) } coarse c.trial false 1
    | .stepping up steps =>
      if best.2 < envelope then
        v.fineStep { c with best := some (c.trial, envelope) } coarse c.trial up steps
      else v.settleSearch best.1

/-- R43: the capstan is in PHASE on CONTROL. -/
def Servo.onControl (v : Servo) : Bool := v.cap == .phase && v.capRef == .control

/-- R43, R44: a pending search that is able to run starts, and a search whose capstan has left PHASE on
CONTROL becomes pending. `playing`: the transport is PLAYING. -/
def Servo.searchSync (v : Servo) (playing : Bool) : Servo :=
  match v.auto with
  | .idle => v
  | .pending => if playing && v.onControl then v.beginSearch v.tracking else v
  | .coarse _ => if v.onControl then v else v.endSearch .pending
  | .fine _ _ _ => if v.onControl then v else v.endSearch .pending

/-! ### The capstan (R32, R33, R35 to R38) -/

/-- The direction in which a target pulls the tape. -/
def CapTarget.dir : CapTarget → Option Dir
  | .none => Option.none
  | .play => some .forward
  | .record _ => some .forward
  | .search d => some d
  | .hold => Option.none

/-- R32, R44: the capstan leaves its target. It ends any detection, and any auto search as `dest`. -/
def Servo.leaveTarget (v : Servo) (dest : AutoSearch) : Servo :=
  { v.endSearch dest with
      cap := .off, capTarget := .none, capRef := .none, capReached := false, capIn := 0, capOut := 0
      capDeadline := none, searchRun := 0, holdAt := none, detection := .none, mismatchRun := 0
      blankMatch := 0, blankMismatch := 0, absentAt := none, blank := false }

/-- R32: the stop command. It ends any detection (R32) and any auto search (R44). -/
def Servo.stopCapstan (v : Servo) : Servo := v.leaveTarget .idle

/-- R36: a full detection begins at STANDARD under a fresh CAPSTAN_LOCK. -/
def Servo.fullDetection (v : Servo) (now : Nat) : Servo :=
  { v with
      cap := .speed, capRef := .none, capReached := false, capIn := 0, capOut := 0
      capDeadline := some ⟨.capstanLock, now + Config.capstanDeadline⟩
      detection := .full none 0, mismatchRun := 0, blankMatch := 0, blankMismatch := 0
      absentAt := some (now + Config.pulsesAbsent), blank := false }

/-- R37: the capstan is started toward PLAY at the play speed under a confirming detection. -/
def Servo.confirmDetection (v : Servo) (now : Nat) : Servo :=
  { v.fullDetection now with capRef := .control, detection := .confirm 0 0, blank := v.blank }

/-- R32: the capstan is started toward a target other than PLAY and HOLD. While PLAYING continues an auto search
is pending from then on, and leaving PLAYING ends it (R44). -/
def Servo.runCapstan (v : Servo) (target : CapTarget) (ref : CapRef) (now : Nat) : Servo :=
  { v.leaveTarget .pending with
      cap := .speed, capTarget := target, capRef := ref
      capDeadline := some ⟨.capstanLock, now + Config.capstanDeadline⟩ }

/-- R32, R35 to R37, R40: the capstan is started toward `target`. R32 gives no state between a start toward HOLD
and STOPPED_HELD: the model shows SPEED while the capstan brakes, and OFF where it was OFF (log 52). -/
def Servo.startCapstan (v : Servo) (target : CapTarget) (now : Nat) : Servo :=
  match target with
  | .none => v.stopCapstan
  | .play =>
    let running := v.cap != .off
    let v := { v with capTarget := .play, searchRun := 0, holdAt := none }
    if running then v.confirmDetection now else v.fullDetection now
  | .record speed => { v.runCapstan (.record speed) .recordRef now with recSpeed := speed }
  | .search d => { v.runCapstan (.search d) .none now with searchSpeed := v.playSpeed }
  | .hold =>
    let braking := if v.cap = .off then CapState.off else .speed
    { v.leaveTarget .pending with
        cap := braking, capTarget := .hold
        capDeadline := some ⟨.capstanHold, now + Config.capstanDeadline⟩
        holdAt := some (now + Config.holdQuiet) }

/-- R40: a tachometer period within ±2% of the search target's, in microseconds: 1000 m / 3 at five times
the play speed, with one pulse for each 0.04 mm of tape. -/
def searchPeriodOk (speed : Speed) (periodUs : Nat) : Bool :=
  980 * speed.factor ≤ 3 * periodUs && 3 * periodUs ≤ 1020 * speed.factor

/-- R32, R40: a capstan tachometer pulse. -/
def Servo.tachPulse (v : Servo) (dir : Dir) (periodUs : Nat) (now : Nat) : Servo :=
  match v.capTarget with
  | .search d =>
    if v.capReached then v
    else
      let n := nextRun (dir == d && searchPeriodOk v.searchSpeed periodUs) v.searchRun
      if 8 ≤ n then { v with searchRun := 0, capReached := true, capDeadline := none }
      else { v with searchRun := n }
  | .hold => if v.holdAt.isSome then { v with holdAt := some (now + Config.holdQuiet) } else v
  | _ => v

/-- R32: no tachometer pulse for 40 ms after a start toward HOLD. -/
def Servo.held (v : Servo) : Servo :=
  if v.holdAt.isSome then
    { v with cap := .stoppedHeld, holdAt := none, capReached := true, capDeadline := none }
  else v

/-- R33: one reference period of the capstan ends, `inWindow` the judgement of its phase error. Periods in the
window count during a confirming detection too, up to 8, so that PHASE follows at the first one after it (R37,
log 53). A loss of PHASE ends the mismatch watch (R37) and leaves the target as reached, so that a PLAY taken during the
relock ends at once (DESIGN CHOICE, log 84). -/
def Servo.referencePeriod (v : Servo) (inWindow : Bool) (now : Nat) : Servo :=
  match v.capRef, v.cap with
  | .none, _ => v
  | _, .speed =>
    let n := min 8 (nextRun inWindow v.capIn)
    if 8 ≤ n ∧ v.detection = .none then
      { v with cap := .phase, capReached := true, capIn := 0, capOut := 0, capDeadline := none }
    else { v with capIn := n }
  | _, .phase =>
    let n := nextRun (!inWindow) v.capOut
    if 4 ≤ n then
      { v with cap := .speed, capIn := 0, capOut := 0, mismatchRun := 0
               capDeadline := some ⟨.capstanRelock, now + Config.capstanDeadline⟩ }
    else { v with capOut := n }
  | _, _ => v

/-- R36: the class of a control-pulse interval. -/
def intervalClass (us : Nat) : Option Speed :=
  if 32000 ≤ us ∧ us ≤ 48000 then some .standard
  else if 16000 ≤ us ∧ us ≤ 24000 then some .long
  else if 10700 ≤ us ∧ us < 16000 then some .extended
  else none

/-- R37: a matching interval. -/
def intervalMatches (us : Nat) : Bool := 32000 ≤ us && us ≤ 48000

/-- R36 to R38: what a control pulse's interval does to the detection and to the two watches.
`playing`: the transport is PLAYING. -/
def Servo.classify (v : Servo) (us : Nat) (playing : Bool) (now : Nat) : Servo :=
  match v.detection with
  | .full cls run =>
    match intervalClass us with
    | none => { v with detection := .full none 0 }
    | some c =>
      let n := if cls = some c then run + 1 else 1
      if 8 ≤ n then { v with playSpeed := c, detection := .none, capRef := .control, capIn := 0 }
      else { v with detection := .full (some c) n }
  | .confirm m x =>
    let m' := nextRun (intervalMatches us) m
    let x' := nextRun (!intervalMatches us) x
    if 8 ≤ m' then { v with detection := .none }
    else if 8 ≤ x' then v.fullDetection now
    else { v with detection := .confirm m' x' }
  | .none =>
    if v.capTarget = .play ∧ playing then
      if v.blank then
        let m' := nextRun (intervalMatches us) v.blankMatch
        let x' := nextRun (!intervalMatches us) v.blankMismatch
        if 8 ≤ m' then
          { v with blank := false, capRef := .control, blankMatch := 0, blankMismatch := 0
                   mismatchRun := 0, absentAt := some (now + Config.pulsesAbsent) }
        else if 8 ≤ x' then v.fullDetection now
        else { v with blankMatch := m', blankMismatch := x' }
      else if v.onControl then
        let x' := nextRun (!intervalMatches us) v.mismatchRun
        if 8 ≤ x' then v.fullDetection now else { v with mismatchRun := x' }
      else v
    else v

/-- R36 to R38: a control pulse. It restarts the second of R38. -/
def Servo.controlPulse (v : Servo) (us : Nat) (playing : Bool) (now : Nat) : Servo :=
  let v := if v.absentAt.isSome then { v with absentAt := some (now + Config.pulsesAbsent) } else v
  v.classify us playing now

/-- R38: control pulses have been absent for 1.0 s. With no detection running and the capstan in SPEED on
CONTROL, which R38 does not name, the reference becomes INTERNAL at the play speed as in PHASE, and the periods
counted toward PHASE or out of it go on over the change (R33, log 54); those counted toward PHASE in a detection that
ends here are dropped (log 53). -/
def Servo.pulsesAbsent (v : Servo) : Servo :=
  if v.absentAt.isSome then
    let v := { v with blank := true, absentAt := none, capRef := .internal, mismatchRun := 0
                      blankMatch := 0, blankMismatch := 0 }
    match v.detection with
    | .full _ _ => { v with playSpeed := .standard, detection := .none, capIn := 0 }
    | .confirm _ _ => { v with detection := .none, capIn := 0 }
    | .none => v
  else v

/-! ### Deadlines, reel drive, resets -/

/-- R34: the deadline of a motor. -/
def Servo.deadline (v : Servo) : Motor → Option Deadline
  | .drum => v.drumDeadline
  | .capstan => v.capDeadline

/-- R41: the reels are driven in a direction. -/
def Servo.driveReels (v : Servo) (d : Dir) : Servo :=
  { v with reel := (match d with | .forward => .forward | .reverse => .reverse), reelReached := false }

/-- R41: drive removed from the reels. -/
def Servo.stopReels (v : Servo) : Servo := { v with reel := .off, reelReached := false }

/-- R41: a rotation pulse of the receiving reel reports "reels driving". -/
def Servo.reelPulse (v : Servo) (r : Reel) : Servo :=
  match v.reel, r with
  | .forward, .takeUp => { v with reelReached := true }
  | .reverse, .supply => { v with reelReached := true }
  | _, _ => v

/-- R45: every motor stops, every deadline without a report. -/
def Servo.stopAll (v : Servo) : Servo := v.stopCapstan.stopReels.stopDrum

/-- R45: the insertion of a cassette. -/
def Servo.insertion (v : Servo) : Servo :=
  { v.endSearch .idle with tracking := 0, playSpeed := .standard }

/-- R45: the values after a start. `kept`: a warm or line start with the cam elsewhere than at EJECT. -/
def Servo.start (v : Servo) (default : Speed) (kept : Bool) : Servo :=
  { Servo.reset with
      recSpeed := default, defaultSpeed := default
      playSpeed := if kept then v.playSpeed else .standard
      tracking := if kept then v.tracking else 0 }

/-- R42: TRACK VALUE sets the clamped offset and ends a search without restoring. -/
def Servo.trackValue (v : Servo) (offset : Int) : Servo :=
  { v with tracking := trackingClamp offset, auto := .idle }

/-- R42, R44: TRACK AUTO taken in PLAYING. -/
def Servo.trackAuto (v : Servo) : Servo :=
  if v.onControl then
    match v.auto with
    | .coarse c => v.beginSearch c.start
    | .fine c _ _ => v.beginSearch c.start
    | _ => v.beginSearch v.tracking
  else { v.endSearch .pending with auto := .pending }

end Sys2Proof.Machine
end

