-- ==== Sys2Proof/Machine/Transport.lean ====
section
/-! DEFINITION. The transport controller (chapter 1) with the approach of a LOCATE (3.4): modes, cam moves,
paths and their stages, requests, the scheduler's orders, sensors, timeouts, safe stop and start. -/
namespace Sys2Proof.Machine

/-! ### Reports and causes -/

/-- R27: a report to the scheduler, while program control is set. -/
def State.report (s : State) (f : Fin 16 → Note) : State :=
  match s.transport.control with
  | none => s
  | some e => s.note (f e)

/-- R15, R22: an event that may clear a blocker (R147). -/
def State.poke (s : State) : State := s.note .poke

/-- R16: what the record-tab sensor reports: absent in EMPTY (log 46). -/
def State.tab (s : State) : Bool := s.sensors.tabPresent && s.transport.mode != .empty

/-! ### Speed factor and drum reference (R31, R39) -/

/-- R39: the path leads toward RECORDING. -/
def Goal.towardRecording : Goal → Bool
  | .record _ _ => true | .resume => true | .progRecord _ _ _ => true | .progSpeed _ _ => true
  | _ => false

/-- R31: the path's target is RECORDING or RECORD_PAUSE. -/
def Goal.recordTarget : Goal → Bool
  | .recPause => true | .progHold _ => true
  | g => g.towardRecording

/-- A property of the path's goal, false without a path. -/
def State.goalIs (s : State) (f : Goal → Bool) : Bool :=
  match s.transport.path with
  | some p => f p.goal
  | none => false

/-- The transport is RECORDING or RECORD_PAUSE. -/
def Mode.records : Mode → Bool
  | .recording => true | .recordPause => true | _ => false

/-- R36: a full detection is running. -/
def Servo.detecting (v : Servo) : Bool :=
  match v.detection with
  | .full _ _ => true
  | _ => false

/-- R39: the speed factor in force, or none. -/
def State.factor (s : State) : Option Nat :=
  if s.transport.mode.records ∨ s.goalIs Goal.towardRecording then some s.servo.recSpeed.factor
  else if s.servo.detecting then none
  else some s.servo.playSpeed.factor

/-- R31: the drum's reference for what the transport does. -/
def State.drumReference (s : State) : DrumRef :=
  if (s.transport.mode.records ∨ s.goalIs Goal.recordTarget) ∧ s.tuner.signal = .sync then .sync
  else .internal

/-! ### Motors -/

/-- R32: the capstan's stop command, if it is not OFF. It voids the revolutions (R66), and the stall timer
stops. -/
def State.haltCapstan (s : State) : State :=
  if s.servo.cap = .off ∧ s.servo.capTarget = .none then s
  else
    { s with
        servo := s.servo.stopCapstan, remaining := s.remaining.halt, transport.stall := none }

/-- R41: the reels are stopped, if they are driven. -/
def State.haltReels (s : State) : State :=
  if s.servo.reel = .off then s
  else { s with servo := s.servo.stopReels, remaining := s.remaining.halt, transport.stall := none }

/-- Capstan and reels stopped. -/
def State.haltMotion (s : State) : State := s.haltCapstan.haltReels

/-- R66: the start holds the capstan or turns it to the opposite direction. -/
def breaksRun (old new : CapTarget) : Bool :=
  match new.dir with
  | none => true
  | some d => old.dir == some d.flip

/-- R32: the capstan is started toward a target other than the one it has. The stall timer runs while the
tape is driven (R19). -/
def State.startCapstan (s : State) (t : CapTarget) : State :=
  if s.servo.capTarget = t then s
  else
    { s with
        remaining := if breaksRun s.servo.capTarget t then s.remaining.halt else s.remaining
        servo := s.servo.startCapstan t s.timeBase
        transport.stall := if t = .hold then none else some (s.after Config.stallLimit) }

/-- R41: the reels are driven in a direction, if they are not already. -/
def State.driveReels (s : State) (d : Dir) : State :=
  if s.servo.reel = (match d with | .forward => .forward | .reverse => .reverse) then s
  else
    { s with
        servo := s.servo.driveReels d, transport.stall := some (s.after Config.stallLimit) }

/-- R30: the drum is stopped, if it is not OFF. -/
def State.stopDrum (s : State) : State :=
  if s.servo.drum = .off then s else { s with servo := s.servo.stopDrum }

/-- R30: the drum is started, if it is OFF. -/
def State.startDrum (s : State) : State :=
  if s.servo.drum = .off then { s with servo := s.servo.startDrum s.timeBase } else s

/-- R19: the receiving reel of the tape drive. R19 names it by the mode, but the stall timer runs from the drive's
start, before the mode is entered: the model goes by the drive's direction (DEDUCED, log 76). -/
def State.receivingReel (s : State) : Option Reel :=
  match s.servo.reel with
  | .forward => some .takeUp
  | .reverse => some .supply
  | .off => s.servo.capTarget.dir.map fun d => match d with | .forward => .takeUp | .reverse => .supply

/-- The capstan pulls tape or is being braked, or the reels are driven. -/
def Servo.moving (v : Servo) : Bool := v.cap == .speed || v.cap == .phase || v.reel != .off

/-! ### Marks and recording owner -/

/-- R53: the map and the TAPE group are rewritten. -/
def State.touchMap (s : State) : State := (s.touch 7).touch 1

/-- R50: a new start is reported. -/
def State.newStart (s : State) (program : Option (Fin 16)) : State :=
  { s with position := s.position.newStart program }

/-- R24, R86: a manual recording has ended: the countdown is none and the tuner is released. -/
def State.endManual (s : State) : State :=
  if s.transport.owner = .manual then
    { s with transport.owner := .none, transport.countdown := none }.releaseRecord.note .manualLeft
  else s

/-- R24: an entry that has returned to PENDING in RECORD_PAUSE loses the recording owner as the transport leaves
that mode (log 50). -/
def State.freePending (s : State) : State :=
  match s.transport.owner with
  | .program n =>
    if (s.entry n).owned.state = .pending then { s with transport.owner := .none } else s
  | _ => s

/-! ### Modes (R1) -/

/-- R1, R7: the mode at rest at a position. -/
def restMode : CamPos → Mode
  | .eject => .empty
  | .housed => .loaded
  | _ => .stopped

/-- R28: the mode of the safe stop for where the cam stands. -/
def safeMode : CamAt → Mode
  | .at p => restMode p
  | .between .eject => .empty
  | .between _ => .stopped

/-- R51, R24, R22, R44: what leaving a mode for `new` does. -/
def State.leaveMode (s : State) (new : Mode) : State :=
  match s.transport.mode with
  | .recording =>
    let s := { s with position := s.position.cutMark }
    if new.records then s else { s with position.segment := none }.endManual
  | .recordPause =>
    let s := { s with transport.still := none }
    if new.records then s else { s with position.segment := none }.endManual.freePending
  | .still => { s with transport.still := none }
  | .playing => { s with servo := s.servo.endSearch .idle }
  | .faultHold => { s with transport.fault := .none }.poke
  | _ => s

/-- R53, R55: a mark seen rewrites the map, unless the full map took no entry for it. -/
def State.rewriteMark (s : State) (r : MarkRun) : State :=
  if (nearestEntry r.lowest none s.position.map).isSome then s.touchMap else s

/-- R52: a run of the detector has ended. -/
def State.markRunEnded (s : State) (seen : Option MarkRun) : State :=
  match seen with
  | some r => s.rewriteMark r
  | none => s

/-- R22, R43, R52: what entering a mode does. -/
def State.enterMode (s : State) : State :=
  match s.transport.mode with
  | .still => { s with transport.still := some (s.after Config.stillLimit) }
  | .recordPause => { s with transport.still := some (s.after Config.stillLimit) }
  | .playing => { s with servo.auto := .pending }
  | .recording =>
    let (p, seen) := s.position.endRun
    { s with position := p }.markRunEnded seen
  | _ => s

/-- The mode becomes `m`. A mode that stays is not entered anew, so a PLAY that ends the stop-motion stage of a path
out of PLAYING (log 12) begins no auto search (R43, log 59). -/
def State.setMode (s : State) (m : Mode) : State :=
  if s.transport.mode = m then s
  else { s.leaveMode m with transport.mode := m }.enterMode

/-! ### Cam moves (R2, R3) -/

/-- R3: the position a move arrives at. -/
def moveTarget (at_ : CamAt) (up : Bool) : CamPos :=
  match at_, up with
  | .at p, true => p.next
  | .at p, false => p.prev
  | .between p, true => p.next
  | .between p, false => p

/-- R2: where the cam stands while it moves. -/
def moveBetween (at_ : CamAt) (up : Bool) : CamAt :=
  match at_, up with
  | .at p, true => .between p
  | .at p, false => .between p.prev
  | .between p, _ => .between p

/-- The position a goal leads the cam to; for the move to rest, from where the cam stands (R21, R29). -/
def Goal.position (g : Goal) (at_ : CamAt) : CamPos :=
  match g with
  | .stop _ => .full
  | .wind _ => .half
  | .eject => .eject
  | .unthread => .housed
  | .powerDown => .full
  | .house => .housed
  | .rest =>
    (match at_ with
      | .at p => if CamPos.half.code ≤ p.code then .full else p
      | .between p => p)
  | _ => .drive

/-- R6: the goal runs the drum. -/
def Goal.runsDrum : Goal → Bool
  | .stop _ => false | .wind _ => false | .eject => false | .unthread => false | .powerDown => false
  | .house => false | .rest => false | _ => true

/-- R3: the direction of the next move toward a position, none when the cam stands there. -/
def moveToward (at_ : CamAt) (p : CamPos) : Option Bool :=
  match at_ with
  | .at q => if q = p then none else some (decide (q.code < p.code))
  | .between q => some (decide (q.code < p.code))

/-- R1, R3: the mode during a move to `dest`, `low`: the path goes down to HOUSED or EJECT. -/
def movingMode (current : Mode) (dest : CamPos) (up low : Bool) : Mode :=
  if up then
    match dest with
    | .housed => .empty
    | .half => .threading
    | .full => if current = .threading then .threading else .stopped
    | _ => .stopped
  else
    match dest with
    | .eject => .ejecting
    | .housed => .unthreading
    | .half => if low then .unthreading else .stopped
    | _ => .stopped

/-- R3, R4: a cam move starts; the pinch is on at DRIVE alone (R1). In FAULT_HOLD an EJECT's attempt keeps
the mode (log 10). -/
def State.startMove (s : State) (g : Goal) (up : Bool) : State :=
  let dest := moveTarget s.sensors.cam up
  let low := decide ((g.position s.sensors.cam).code ≤ CamPos.housed.code)
  let s := { s with
    transport.camMove := some ⟨dest, up, s.after Config.camLimit⟩
    transport.pinch := false
    sensors.cam := moveBetween s.sensors.cam up }
  if s.transport.mode = .faultHold ∧ g = .eject then s
  else s.setMode (movingMode s.transport.mode dest up low)

/-! ### Paths (R6, R7) -/

/-- R6, stage 1: the motion under way is shared by the goal. -/
def Goal.sharesMotion (g : Goal) (v : Servo) : Bool :=
  match g with
  | .wind .forward => v.reel == .forward
  | .wind .reverse => v.reel == .reverse
  | g => g.runsDrum && v.reel == .off

/-- R6, stages 2 and 3: the drum is turned off if the goal does not run it, and the path is at its cam
stage. -/
def State.enterCam (s : State) (p : Path) : State :=
  let s := if p.goal.runsDrum then s else s.stopDrum
  { s with transport.stopLimit := none, transport.path := some { p with stage := .cam } }

/-- R6, stage 1: the path begins from the transport as it stands, with no cam move under way. A recording
left for a target off DRIVE ends at once (log 12). A path that begins in the stop-motion stage of another one waits
that stage out, whatever its target (log 58). -/
def State.startStages (s : State) (p : Path) : State :=
  let s := if s.transport.mode.records ∧ !p.goal.runsDrum then s.setMode .stopped else s
  if s.transport.stopLimit.isSome then
    { s.haltReels with transport.path := some { p with stage := .stopping } }
  else if p.goal.sharesMotion s.servo then s.enterCam p
  else
    let moving := s.servo.moving
    let s := s.haltMotion
    if moving then
      { s with
          transport.stopLimit := some (s.after Config.stopMotionLimit)
          transport.path := some { p with stage := .stopping } }
    else s.enterCam p

/-- R14, R15: a housing move is due and has not started. -/
def State.housingWaits (s : State) : Bool :=
  match s.transport.path with
  | some p => (p.goal == .house || p.houseFirst) && s.transport.camMove.isNone
  | none => false

/-- R6, R7: a path replaces the one under way. With a cam move under way it waits for its arrival. -/
def State.beginPath (s : State) (g : Goal) (order : Bool) : State :=
  let p : Path := ⟨g, .waitMove, s.housingWaits, order⟩
  if s.transport.camMove.isSome then { s with transport.path := some p }
  else s.startStages p

/-- R5: no housing move is under way or due. -/
def State.housing (s : State) : Bool :=
  s.goalIs (· == .house) ||
    (match s.transport.camMove with
      | some m => m.target == .housed && m.up
      | none => s.housingWaits)

/-- R10, R14: the part of a path that goes on when its request ends in EMPTY or LOADED: a housing move, and
a move to rest. -/
def State.pathLeft (s : State) : Option Path :=
  if s.housing then some ⟨.house, .cam, false, false⟩
  else if s.goalIs (· == .rest) then s.transport.path
  else none

/-- R10: STOP's path from the mode the transport is in, with no request of its own. -/
def State.stopPath (s : State) : State :=
  match s.transport.mode with
  | .faultHold => s
  | .empty => { s with transport.path := s.pathLeft }
  | .loaded => { s with transport.path := s.pathLeft }
  | .unthreading => s.beginPath (.stop true) false
  | .ejecting => s.beginPath (.stop true) false
  | _ => s.beginPath (.stop false) false

/-! ### LOCATE (R59 to R63) -/

/-- R59: the distance to the target, none while the target is not known. -/
def Position.distance (p : Position) : Option Int :=
  match p.locate with
  | some l => l.target.map fun t => t - p.counter
  | none => none

/-- The results of a LOCATE (11.5). -/
def locateResults (counter : Int) (met : Nat) (thenPlay : Bool) : List Byte :=
  signed32 counter ++ le16 met ++ le16 (bit thenPlay)

/-- R61: the LOCATE arrives; the final leg is ordered. -/
def State.locateArrive (s : State) (l : Locate) : State :=
  let s := s.finishLane .transport .done .none (locateResults s.position.counter l.met l.thenPlay)
  let s := { s with position.locate := none }
  if l.thenPlay then s.beginPath .play false else s.stopPath

/-- R60, R62: a search leg is ordered. -/
def State.searchLeg (s : State) (l : Locate) : State :=
  { s with position.locate := some { l with leg := .search } }.beginPath .locateSearch false

/-- R61: the distance lies within 5 frames. -/
def arrived (d : Int) : Bool := d.natAbs ≤ 5

/-- The direction of a distance. -/
def distanceDir (d : Int) : Dir := if d < 0 then .reverse else .forward

/-- R60: a wind leg ends at this distance. -/
def windLegEnds (dir : Dir) (d : Int) : Bool := d.natAbs ≤ 750 || distanceDir d != dir

/-- R60, R61: the counter has changed while a LOCATE is in flight (log 24). -/
def State.locateTest (s : State) : State :=
  match s.position.locate, s.position.distance with
  | some l, some d =>
    match l.leg with
    | .wind dir => if windLegEnds dir d then s.searchLeg l else s
    | .search =>
      match s.transport.path with
      | some p =>
        if p.goal = .locateSearch ∧ p.stage = .driving then
          if arrived d then s.locateArrive l else s.startCapstan (.search (distanceDir d))
        else s
      | none => s
  | _, _ => s

/-- R62: a mark seen counts toward a MARKS target. -/
def State.locateMark (s : State) (r : MarkRun) : State :=
  match s.position.locate with
  | some l =>
    if l.kind = .marks ∧ l.leg = .wind r.dir ∧ r.afterLocate then
      let l := { l with met := l.met + 1 }
      if l.wanted ≤ l.met then s.searchLeg { l with target := some r.lowest }
      else { s with position.locate := some l }
    else s
  | none => s

/-- R52, R62: a run of the detector has ended, and a mark may have been seen. -/
def State.markSeen (s : State) (seen : Option MarkRun) : State :=
  match seen with
  | some r => (s.rewriteMark r).locateMark r
  | none => s

/-- R52: the detector's run ends. -/
def State.endMarkRun (s : State) : State :=
  let (p, seen) := s.position.endRun
  { s with position := p }.markSeen seen

/-- R63: a request in flight ends early, with its LOCATE context. -/
def State.failTransport (s : State) (o : ReqOutcome) (why : Reason) : State :=
  { s.finishLane .transport o why [] with position.locate := none }

/-! ### The steps of a path -/

/-- R27: an order in flight is complete. -/
def State.completeOrder (s : State) (newStart : Bool) : State :=
  let o := s.transport.order
  let s := { s with transport.order := none }
  match o with
  | some (.take e) => s.note (.takeDone e)
  | some (.record e _ _) => s.note (.recordEntered e newStart)
  | some (.speed e _) => s.note (.recordEntered e false)
  | some (.hold e) => s.note (.pauseEntered e)
  | none => s

/-- R6: the path has reached its target: its request finishes DONE, or its order is complete. -/
def State.complete (s : State) (p : Path) (newStart : Bool) : State :=
  let s := { s with transport.path := none }
  if p.order then s.completeOrder newStart else s.finishLane .transport .done .none []

/-- R27: the goal of an order. A SPEED order that starts again from STOPPED records at the new speed. -/
def Order.goal (o : Order) (recording : Bool) : Goal :=
  match o with
  | .take _ => .still
  | .record e sp new => .progRecord e sp new
  | .hold e => .progHold e
  | .speed e sp => if recording then .progSpeed e sp else .progRecord e sp false

/-- R10, R22, R27: STOP's path is at rest. A host STOP reports to the scheduler and drops the order it held;
without one, an order in flight starts again from here. -/
def State.completeStop (s : State) : State :=
  let hosted := s.requests.transportLane.isSome
  let s := { s with transport.path := none }
  if hosted then
    { s.finishLane .transport .done .none [] with transport.order := none }.report .hostStop
  else
    match s.transport.order with
    | some o => s.beginPath (o.goal false) true
    | none => s

/-- R29: the cassette switch is closed at a start, so the cassette is housed. -/
def State.houseIfArmed (s : State) : State :=
  if s.transport.switchArmed ∧ s.sensors.switchClosed then
    { s with transport.path := some ⟨.house, .cam, false, false⟩ }
  else s

/-- The cam's position, the one below when it stands between two. -/
def CamAt.base : CamAt → CamPos
  | .at p => p
  | .between p => p

/-- R29, R27: the move to rest has ended: an order given meanwhile begins (log 36), and a cassette pushed in
is housed. -/
def State.afterRest (s : State) : State :=
  match s.transport.order with
  | some o => s.beginPath (o.goal false) true
  | none => if s.sensors.cam = .at .eject then s.houseIfArmed else s

/-- R14, R57: the arrival at EJECT that ends an eject. No cassette is left for the tab sensor (R16). -/
def State.ejected (s : State) : State :=
  let s := s.endMarkRun
  let s := { s with
    position := s.position.emptyMap, remaining := s.remaining.halt, transport.switchArmed := false
    sensors.tabPresent := false }
  ((s.setMode .empty).touchMap).raise .transport 1

/-- R6: the cam stands at the position of a goal off DRIVE. An EJECT that finds it at EJECT with the mode
other than EMPTY, as in FAULT_HOLD after a late report, has arrived (R14, R21). -/
def State.atTarget (s : State) (p : Path) : Option State :=
  match p.goal with
  | .stop _ => some ((s.setMode (restMode s.sensors.cam.base)).completeStop)
  | .wind d =>
    if s.supplyReady then
      let s := (s.driveReels d).setMode (match d with | .forward => .windFwd | .reverse => .windRev)
      some { s with transport.path := some { p with stage := .driving } }
    else none
  | .eject => some ((if s.transport.mode = .empty then s else s.ejected).complete p false)
  | .unthread => some ({ s with transport.path := none }.setMode .loaded)
  | .powerDown =>
    some (({ s with transport.path := none }.setMode (restMode s.sensors.cam.base)).beginPath .unthread false)
  | .house => some { s with transport.path := none }
  | .rest =>
    some ({ s with transport.path := none }.setMode (restMode s.sensors.cam.base)).afterRest
  | _ => some { s with transport.path := some { p with stage := .drive } }

/-- R6, stage 3: one more step of the cam, or the target position. -/
def State.camStep (s : State) (p : Path) : Option State :=
  if s.transport.camMove.isSome then none
  else if p.houseFirst then
    if s.supplyReady then some (s.startMove .house true) else none
  else if p.goal = .stop true then s.atTarget p
  else
    match moveToward s.sensors.cam (p.goal.position s.sensors.cam) with
    | none => s.atTarget p
    | some up =>
      if s.supplyReady then
        let s := if s.sensors.cam = .at .full ∧ up then s.startDrum else s
        some (s.startMove p.goal up)
      else none

/-- R6, stage 4: the target the capstan is started toward. -/
def Goal.capTarget (g : Goal) (v : Servo) : CapTarget :=
  match g with
  | .play => .play
  | .record speed _ => .record speed
  | .resume => .record v.recSpeed
  | .search d => .search d
  | .progRecord _ speed _ => .record speed
  | _ => .hold

/-- R11, R27: the mode entered when the capstan is started toward HOLD (log 11). -/
def State.enterHold (s : State) (g : Goal) : State :=
  match g with
  | .still => s.setMode .still
  | .recPause => s.setMode .recordPause
  | .progHold e => { s with transport.owner := .program e }.setMode .recordPause
  | .progSpeed _ _ => s.setMode .recordPause
  | _ => s

/-- R6, R61: the drive is started, under the pinch (log 47). -/
def State.startDrive (s : State) (p : Path) : State :=
  let s := { s with transport.path := some { p with stage := .driving }, transport.pinch := true }
  match p.goal with
  | .locateSearch =>
    match s.position.locate, s.position.distance with
    | some l, some d =>
      if arrived d then s.locateArrive l else s.startCapstan (.search (distanceDir d))
    | _, _ => s
  | g => (s.startCapstan (g.capTarget s.servo)).enterHold g

/-- R6, stage 4: the drum is PHASE_LOCKED, or the capstan already runs or is held under a drum that has been. R31 has
a PLAY or RECORD "whose capstan is waiting for drum lock" go on waiting while the drum relocks: in the model that is
one whose capstan is OFF (DEDUCED, log 77). -/
def Servo.driveReady (v : Servo) : Bool :=
  v.drum == .phaseLocked || (v.cap != .off && v.drumLocked)

/-- R6, stage 4 at DRIVE. -/
def State.driveStep (s : State) (p : Path) : Option State :=
  if !s.supplyReady then none
  else if s.servo.drum = .off then some s.startDrum
  else if s.servo.driveReady then some (s.startDrive p)
  else none

/-- R25: the countdown of a recording that begins now. -/
def State.countdownOf (s : State) (minutes : Nat) : Option Countdown :=
  if minutes = 0 then none else some ⟨minutes, s.after (60 * Config.hz)⟩

/-- R9: a manual recording begins. -/
def State.beginManual (s : State) (p : Path) (minutes : Nat) : State :=
  let s := { s with transport.owner := .manual }.setMode .recording
  let s := s.takeManual.newStart none
  { s with transport.countdown := s.countdownOf minutes }.complete p false

/-- R9: both servos report lock on a manual RECORD's path. -/
def State.recordLocked (s : State) (p : Path) (minutes : Nat) : State :=
  if s.tuner.owner = .scan then (s.failTransport .failed .tunerHeld).stopPath
  else s.beginManual p minutes

/-- R27: writing begins under the scheduler's RECORD order. -/
def State.beginProgram (s : State) (p : Path) (e : Fin 16) (newStart : Bool) : State :=
  let s := { s with transport.owner := .program e }.setMode .recording
  let s := if newStart then s.newStart (some e) else s
  s.complete p newStart

/-- R12: the mode of a search. -/
def searchMode : Dir → Mode
  | .forward => .cue
  | .reverse => .review

/-- R6: the drive has been started; the path's end, once its condition holds. A PLAY taken in PLAYING while the capstan
relocks finds the target reached and ends at once: R33 gives no report at a regained PHASE, and does not say when that
request ends (DESIGN CHOICE, log 84). -/
def State.drivingStep (s : State) (p : Path) : Option State :=
  match p.goal with
  | .wind _ =>
    if s.servo.reelReached then
      if s.position.locate.isSome then some { s with transport.path := none }
      else some (s.complete p false)
    else none
  | g =>
    if s.servo.capReached then
      match g with
      | .play => some ((s.setMode .playing).complete p false)
      | .record _ minutes => some (s.recordLocked p minutes)
      | .resume => some ((s.setMode .recording).complete p false)
      | .search d => some ((s.setMode (searchMode d)).complete p false)
      | .locateSearch =>
        match s.servo.capTarget with
        | .search d =>
          if s.transport.mode = searchMode d then none else some (s.setMode (searchMode d))
        | _ => none
      | .progRecord e _ new => some (s.beginProgram p e new)
      | .progSpeed e speed =>
        some { s with transport.path := some { p with goal := .progRecord e speed false, stage := .drive } }
      | _ => some (s.complete p false)
    else none

/-- R6, R7: the next thing the path can do by itself, none when it waits for an event. -/
def State.pathStep (s : State) : Option State :=
  match s.transport.path with
  | none => none
  | some p =>
    match p.stage with
    | .waitMove => if s.transport.camMove.isSome then none else some (s.startStages p)
    | .stopping => none
    | .cam => s.camStep p
    | .drive => s.driveStep p
    | .driving => s.drivingStep p

/-! ### Arrivals and the limit of a move (R4, R14, R15) -/

/-- R15, R45, R57, R59, R68: a cassette has been housed. A LOCATE in flight sees the counter change. -/
def State.insertion (s : State) : State :=
  let s := { s with
    position := s.position.insertion, remaining := s.remaining.insertion, servo := s.servo.insertion }
  (((s.setMode .loaded).touchMap.raise .transport 0).note .figure).poke.locateTest

/-- R7: the path waits for the move to arrive. -/
def State.pathWaits (s : State) : Bool :=
  match s.transport.path with
  | some p => p.stage == .waitMove
  | none => true

/-- R3, R4, R7: a cam move arrives; at DRIVE the pinch is on (R1). An arrival at HOUSED from below is an insertion
(R15), also where a request taken in EJECTING leads the cam up again, and whatever the cassette switch reads, which R7
leaves open (DESIGN CHOICE, log 75). An arrival at EJECT ends an eject (R14), but for that of a move to rest; one is the
EJECT's own move that a BLOCK_RESET of TRANSPORT lets run on, which R21 leaves open (DESIGN CHOICE, log 83). -/
def State.moveArrives (s : State) (m : CamMove) : State :=
  let s := { s with transport.camMove := none, transport.pinch := m.target == .drive }
  if m.target = .housed ∧ m.up then
    { s with transport.path := s.transport.path.map fun (p : Path) => { p with houseFirst := false } }.insertion
  else if m.target = .eject ∧ !s.goalIs (· == .rest) then s.ejected
  else if s.pathWaits ∧ s.transport.mode ≠ .faultHold then s.setMode (restMode m.target)
  else s

/-- R2, R3: the contacts report a position. Without a move to it, only the cam position changes (R4). -/
def State.camReport (s : State) (pos : CamPos) : State :=
  let s := { s with sensors.cam := .at pos }
  match s.transport.camMove with
  | none => s
  | some m => if m.target = pos then s.moveArrives m else s

/-- R4, R19, R21: every motor stops and FAULT_HOLD is entered. -/
def State.enterFault (s : State) (code : FaultCode) (f : Fin 16 → Note) : State :=
  let s := s.haltMotion.stopDrum
  let s := { s with
    transport.camMove := none, transport.path := none, transport.stopLimit := none
    transport.stall := none, transport.order := none }
  let s := s.setMode .faultHold
  let s := { s with transport.fault := code }.failTransport .failed code.reason
  (s.raise .fault code.reason.code).report f

/-- R4: the limit of a cam move runs out. -/
def State.moveLimit (s : State) : State :=
  if s.transport.camMove.isSome then s.enterFault .mechJam .jam else s

/-! ### Requests (R5, R8 to R14) -/

/-- The transport requests (R5). -/
inductive TransportKind where
  | play | record | stop | pause | cue | review | wind | eject | locate
  deriving DecidableEq, Repr

/-- R5, check 5: the arguments are among the values a kind lists. -/
def transportArgsOk (k : TransportKind) (r : Request) : Bool :=
  match k with
  | .record => r.byte 0 ≤ 3
  | .wind => r.byte 0 ≤ 1
  | _ => true

/-- R59: the target position of a LOCATE when it is taken, none for MARKS or a target out of range. -/
def Position.locateTarget (p : Position) (r : Request) : Option Int :=
  match r.byte 0 with
  | 0 => some (counterClamp (r.long 4))
  | 1 => if r.long 4 < 0 then none else (p.map[(r.long 4).toNat]?).map (·.position)
  | _ => none

/-- R5, check 7: the request's path leads the cam above HOUSED (log 25). -/
def State.leadsUp (s : State) (k : TransportKind) (r : Request) : Bool :=
  match k with
  | .stop => false
  | .eject => false
  | .locate =>
    match s.position.locateTarget r with
    | some t => !arrived (t - s.position.counter) || r.byte 1 != 0
    | none => true
  | _ => true

/-- R5, check 7: the path starts at HOUSED or below. -/
def State.startsLow (s : State) : Bool :=
  match s.transport.camMove with
  | some m => m.target.code ≤ CamPos.housed.code
  | none =>
    match s.sensors.cam with
    | .at p => p.code ≤ CamPos.housed.code
    | .between p => p == .eject

/-- R5, check 8: the request would start forward tape motion. -/
def State.startsForward (s : State) (k : TransportKind) (r : Request) : Bool :=
  match k with
  | .play => true
  | .record => true
  | .cue => true
  | .wind => r.byte 0 == 0
  | .pause => s.transport.mode == .still || s.transport.mode == .recordPause
  | _ => false

/-- R5, check 9. -/
def startsReverse (k : TransportKind) (r : Request) : Bool :=
  match k with
  | .review => true
  | .wind => r.byte 0 == 1
  | _ => false

/-- R5: the first check that applies. -/
def State.checkTransport (s : State) (k : TransportKind) (r : Request) : Option Reason :=
  if s.transport.control.isSome ∧ k ≠ .stop then some .timerActive
  else if s.transport.mode = .faultHold ∧ k ≠ .eject then some .faultHold
  else if s.transport.owner = .manual ∧ k ≠ .stop ∧ k ≠ .pause ∧ k ≠ .eject then some .recording
  else if s.transport.mode = .empty ∧ !s.housing ∧ k ≠ .stop ∧ k ≠ .eject then some .noCassette
  else if !transportArgsOk k r then some .badArgument
  else if k = .record ∧ !s.tab then some .writeProtect
  else if s.sensors.dew ∧ s.leadsUp k r ∧ s.startsLow then some .dew
  else if s.sensors.endActive ∧ s.startsForward k r then some .atEnd
  else if s.sensors.startActive ∧ startsReverse k r then some .atStart
  else if k = .record ∧ s.tuner.owner = .scan then some .tunerHeld
  else none

/-- The transport stands in STOPPED at rest (R1, R23). -/
def State.restsStopped (s : State) : Bool :=
  s.transport.mode == .stopped && s.transport.camMove.isNone && s.transport.path.isNone

/-- R5, R7, R63: a request that is not refused is taken into the lane. Taken in STOPPED, at rest or while a path passes
through it, it restarts a running idle timer (R23); one that does not run is left to the next rest (log 30). -/
def State.takeTransport (s : State) (n : Fin 16) : State :=
  let s := if s.transport.mode = .stopped ∧ s.transport.idle.isSome then
      { s with transport.idle := some (s.after Config.idleLimit) } else s
  let s : State := { s.takeLane .transport n with position.locate := none }
  if s.transport.fault = .servoFail then { s with transport.fault := .none } else s

/-- R5: a request is checked, and acts if it is not refused. -/
def State.takeUnlessRefused (s : State) (n : Fin 16) (k : TransportKind) (r : Request)
    (f : State → State) : State :=
  match s.checkTransport k r with
  | some why => s.finishSlot n .refused why []
  | none => f (s.takeTransport n)

/-- R8: PLAY. -/
def State.play (s : State) (n : Fin 16) (r : Request) : State :=
  s.takeUnlessRefused n .play r fun s => s.beginPath .play false

/-- R35: the speed a RECORD request carries. The spec leaves open when the default is resolved, with settings
that may be given back before the capstan starts: the model resolves it as the request is taken (log 48). -/
def State.recordSpeed (s : State) (r : Request) : Speed :=
  if r.byte 0 = 3 then s.servo.defaultSpeed else Speed.ofCode (r.byte 0)

/-- R9: RECORD. -/
def State.record (s : State) (n : Fin 16) (r : Request) : State :=
  s.takeUnlessRefused n .record r fun s => s.beginPath (.record (s.recordSpeed r) (min 480 (r.word 2))) false

/-- R10: a STOP in EMPTY or LOADED finishes at once; a housing move and a move to rest go on. -/
def State.stopAtRest (s : State) : State :=
  { s.completeStop with transport.path := s.pathLeft }

/-- R10: STOP. -/
def State.stop (s : State) (n : Fin 16) (r : Request) : State :=
  s.takeUnlessRefused n .stop r fun s =>
    if s.transport.mode = .empty ∨ s.transport.mode = .loaded then s.stopAtRest else s.stopPath

/-- R11: the goal of a PAUSE taken in a mode. R5 lets PAUSE pass in EMPTY while a housing move is under way, and R11
has no row for EMPTY: the target is STILL there too (DESIGN CHOICE, log 74). -/
def pauseGoal : Mode → Goal
  | .still => .play
  | .recording => .recPause
  | .recordPause => .resume
  | _ => .still

/-- R11: PAUSE. -/
def State.pause (s : State) (n : Fin 16) (r : Request) : State :=
  s.takeUnlessRefused n .pause r fun s => s.beginPath (pauseGoal s.transport.mode) false

/-- R12: CUE. -/
def State.cue (s : State) (n : Fin 16) (r : Request) : State :=
  s.takeUnlessRefused n .cue r fun s => s.beginPath (.search .forward) false

/-- R12: REVIEW. -/
def State.review (s : State) (n : Fin 16) (r : Request) : State :=
  s.takeUnlessRefused n .review r fun s => s.beginPath (.search .reverse) false

/-- R13: the direction argument of WIND. -/
def windDir (r : Request) : Dir := if r.byte 0 = 0 then .forward else .reverse

/-- R13: the wind of a direction is under way. -/
def State.winding (s : State) (d : Dir) : Bool :=
  match d with
  | .forward => s.transport.mode == .windFwd && s.servo.reel == .forward
  | .reverse => s.transport.mode == .windRev && s.servo.reel == .reverse

/-- R13: WIND. -/
def State.wind (s : State) (n : Fin 16) (r : Request) : State :=
  s.takeUnlessRefused n .wind r fun s =>
    if s.winding (windDir r) then
      { s with transport.path := none }.finishLane .transport .done .none []
    else s.beginPath (.wind (windDir r)) false

/-- R14: EJECT. -/
def State.eject (s : State) (n : Fin 16) (r : Request) : State :=
  s.takeUnlessRefused n .eject r fun s =>
    if s.transport.mode = .empty ∧ !s.housing ∧ s.transport.camMove.isNone then
      s.finishLane .transport .done .none []
    else s.beginPath .eject false

/-- R59: the checks of a LOCATE's target. -/
def State.checkLocate (s : State) (r : Request) : Option Reason :=
  let v := r.long 4
  if 2 < r.byte 0 then some .badArgument
  else if r.byte 0 = 1 ∧ (v < 0 ∨ (s.position.map.length : Int) ≤ v) then some .badArgument
  else if r.byte 0 = 2 ∧ (v = 0 ∨ v < -99 ∨ 99 < v) then some .badArgument
  else
    let d : Int := match s.position.locateTarget r with
      | some t => t - s.position.counter
      | none => if 0 < v then 6 else -6
    if 5 < d ∧ s.sensors.endActive then some .atEnd
    else if d < -5 ∧ s.sensors.startActive then some .atStart
    else none

/-- R59: the kind of target a LOCATE names. -/
def locateKind (r : Request) : LocateKind :=
  match r.byte 0 with
  | 0 => .counter
  | 1 => .map
  | _ => .marks

/-- R52, R59: a run of the detector under way does not count toward the LOCATE taken. -/
def Position.markOldRun (p : Position) : Position :=
  { p with detector := p.detector.map fun r => { r with afterLocate := false } }

/-- R60, R62: the first leg of a LOCATE. -/
def State.firstLeg (s : State) (l : Locate) (dir : Dir) : State :=
  { s with position.locate := some { l with leg := .wind dir } }.beginPath (.wind dir) false

/-- R59 to R62: a LOCATE that passes its checks. -/
def State.beginLocate (s : State) (r : Request) : State :=
  let v := r.long 4
  let target := s.position.locateTarget r
  let l : Locate :=
    { kind := locateKind r, target := target, wanted := if target.isSome then 0 else v.natAbs, met := 0
      leg := .search, thenPlay := r.byte 1 != 0 }
  let s := { s with position := { s.position.markOldRun with locate := some l } }
  match target with
  | none => s.firstLeg l (distanceDir v)
  | some t =>
    let d := t - s.position.counter
    if arrived d then s.locateArrive l
    else if d.natAbs ≤ 750 then s.searchLeg l
    else s.firstLeg l (distanceDir d)

/-- R59: LOCATE. -/
def State.locate (s : State) (n : Fin 16) (r : Request) : State :=
  match s.checkTransport .locate r with
  | some why => s.finishSlot n .refused why []
  | none =>
    match s.checkLocate r with
    | some why => s.finishSlot n .refused why []
    | none => (s.takeTransport n).beginLocate r

/-! ### Sensors, stalls, servo failures (R15 to R20) -/

/-- R15: the cassette switch changes. -/
def State.switchChange (s : State) (closed : Bool) : State :=
  let closing := closed && !s.sensors.switchClosed
  let s := { s with sensors.switchClosed := closed }
  if closing ∧ s.transport.mode = .empty ∧ s.transport.camMove.isNone ∧ s.transport.path.isNone
      ∧ s.sensors.cam = .at .eject then
    { s with transport.path := some ⟨.house, .cam, false, false⟩ }
  else s

/-- R17: the modes in which dew unthreads the tape. -/
def Mode.threaded : Mode → Bool
  | .empty => false | .loaded => false | .ejecting => false | .faultHold => false | _ => true

/-- R17: dew appears. In LOADED it has no effect, so a request taken there, or an order given there, that still
waits for the mechanism supply goes on and threads (log 48). -/
def State.dewAppears (s : State) : State :=
  if s.sensors.dew then s
  else
    let s := { s with sensors.dew := true }
    if s.transport.mode = .faultHold then s.poke
    else
      let s := if s.transport.mode.threaded then
          { s.failTransport .failed .dew with transport.order := none }.beginPath .unthread false
        else s
      (s.report .dew).poke

/-- R18: the modes in which the end sensor stops the tape, and those of the start sensor. -/
def sensorStops (d : Dir) (m : Mode) : Bool :=
  match d, m with
  | .forward, .playing => true
  | .forward, .recording => true
  | .forward, .cue => true
  | .forward, .windFwd => true
  | .reverse, .review => true
  | .reverse, .windRev => true
  | _, _ => false

/-- R18: a path on its way to motion toward the end or the start. -/
def Goal.headsFor (g : Goal) (d : Dir) : Bool :=
  match g, d with
  | .play, .forward => true
  | .search .forward, .forward => true
  | .search .reverse, .reverse => true
  | .wind .reverse, .reverse => true
  | g, .forward => g.towardRecording
  | _, _ => false

/-- R63: the direction of the leg of a LOCATE in flight. Before stage 4, where R61 has not decided it, a search leg
has that of the present distance (log 60). -/
def State.legDir (s : State) : Option Dir :=
  match s.position.locate with
  | none => none
  | some l =>
    match l.leg with
    | .wind d => some d
    | .search => s.position.distance.map distanceDir

/-- R18: the reason and the cause's detail of a tape end. -/
def endReason : Dir → Reason
  | .forward => .atEnd
  | .reverse => .atStart

def endDetail : Dir → Nat
  | .forward => 2
  | .reverse => 3

/-- R18, R63: the tape has come to its end in direction `d`. -/
def State.tapeEnded (s : State) (d : Dir) : State :=
  if sensorStops d s.transport.mode ∨ s.legDir = some d then
    let s := { s.failTransport .failed (endReason d) with transport.order := none }.stopPath
    (s.raise .transport (endDetail d)).report .tapeEnd
  else if s.goalIs (Goal.headsFor · d) then
    ({ s.failTransport .failed (endReason d) with transport.order := none }.stopPath).report .atEnd
  else s

/-- R18: the end sensor becomes active. -/
def State.endActive (s : State) : State :=
  if s.sensors.endActive then s else { s with sensors.endActive := true }.tapeEnded .forward

/-- R18: the start sensor becomes active. -/
def State.startActive (s : State) : State :=
  if s.sensors.startActive then s else { s with sensors.startActive := true }.tapeEnded .reverse

/-- R19: the stall timer runs out. -/
def State.reelStalled (s : State) : State :=
  if s.transport.stall.isSome then s.enterFault .reelStall .servoFault else s

/-- R20, R34: the servo reports SERVO_FAIL, the kind of the deadline recorded. R44: an auto search ends with no
result, also one that is still PENDING. -/
def State.servoFail (s : State) (k : DeadlineKind) : State :=
  let s := { s with servo := { s.servo.endSearch .idle with lastFail := some k } }
  let s := { s.failTransport .failed .servoFail with transport.order := none }
  let s := (s.stopPath.haltMotion).stopDrum
  let s := { s with transport.fault := .servoFail }
  (s.raise .fault Reason.servoFail.code).report .servoFault

/-- R34: a lock deadline runs out. -/
def State.deadlineOut (s : State) (m : Motor) : State :=
  match s.servo.deadline m with
  | none => s
  | some d => s.servoFail d.kind

/-! ### Timeouts and POWER OFF (R6, R22, R23, R25, R26) -/

/-- R6: the stop-motion stage is complete. -/
def State.motionStopped (s : State) : State :=
  match s.transport.path with
  | some p => if p.stage = .stopping then s.enterCam p else s
  | none => s

/-- R22: the still timer runs out. -/
def State.stillOut (s : State) : State :=
  if s.transport.still.isSome then
    let s := (s.failTransport .superseded .none).setMode .stopped
    ({ s with transport.pinch := false }.stopPath).raise .transport 4
  else s

/-- R23: the idle timer runs out. -/
def State.idleOut (s : State) : State :=
  let rests := s.transport.idle.isSome && s.restsStopped
  let s := { s with transport.idle := none }
  if rests then s.beginPath .unthread false else s

/-- R25: the record countdown reaches 0. -/
def State.recordEnd (s : State) : State :=
  let s := { s.failTransport .superseded .none with transport.countdown := none }
  (s.stopPath).raise .transport 5

/-- R25: a minute of the record countdown passes. -/
def State.countdownMinute (s : State) : State :=
  match s.transport.countdown with
  | none => s
  | some c =>
    if c.minutes ≤ 1 then s.recordEnd
    else { s with transport.countdown := some ⟨c.minutes - 1, c.nextAt + 60 * Config.hz⟩ }

/-- R26: where POWER OFF takes the tape: from THREADING it unthreads after the move under way, from the other
threaded modes it goes to STOPPED first. -/
def offGoal : Mode → Goal
  | .threading => .unthread
  | _ => .powerDown

/-- R26: POWER OFF acts on the transport. In the modes that R26 leaves alone a LOCATE in flight goes on (R63,
log 66). In THREADING, of which R26 names the move alone, a request in flight fails with PREEMPTED as in a threaded mode
(DESIGN CHOICE, log 97). -/
def State.transportOff (s : State) : State :=
  if s.transport.control.isNone ∧ s.transport.mode.threaded ∧ s.transport.mode ≠ .unthreading then
    (s.failTransport .failed .preempted).beginPath (offGoal s.transport.mode) false
  else s

/-! ### The scheduler's orders (R27) -/

/-- R27: a host STOP is in flight, which holds an order given now. -/
def State.stopInFlight (s : State) : Bool := s.requests.transportLane.isSome

/-- R27: an order becomes the one in flight, and its path begins unless a host STOP or a start's move to rest
goes on (log 36). -/
def State.giveOrder (s : State) (o : Order) : State :=
  let s := { s with transport.order := some o }
  if s.stopInFlight ∨ s.goalIs (· == .rest) then s else s.beginPath (o.goal (s.transport.mode = .recording)) true

/-- R27: TAKE may bring the transport to STILL. -/
def State.takeable (s : State) : Bool :=
  s.transport.mode != .empty && s.transport.mode != .ejecting && s.transport.mode != .faultHold
    && s.tab && !s.sensors.dew

/-- R27: the modes that TAKE ends where it cannot reach STILL: playback, search, winding, and the writing of
an earlier holder. -/
def Mode.endsAtTake : Mode → Bool
  | .playing => true | .cue => true | .review => true | .windFwd => true | .windRev => true
  | .recording => true | .recordPause => true | _ => false

/-- R27: a TAKE that cannot reach STILL stops motion, what carried out a request or an order that it ends, and a
path on its way to playback with neither, the final leg of a LOCATE (R61), by STOP's path (log 49). -/
def State.takeStops (s : State) : Bool :=
  s.transport.mode.endsAtTake || s.requests.transportLane.isSome
    || s.transport.path.any fun p => p.order || p.goal.runsDrum

/-- R27: TAKE n where STILL cannot be reached: what `stops` is stopped, and the completion reported. -/
def State.takeInPlace (s : State) (e : Fin 16) (stops : Bool) : State :=
  (if stops then s.stopPath else s).note (.takeDone e)

/-- R27: TAKE n. A host STOP in flight under the control of an earlier holder goes on. -/
def State.orderTake (s : State) (e : Fin 16) : State :=
  let controlled := s.transport.control.isSome
  let stops := s.takeStops && !(controlled && s.stopInFlight)
  let s := { s with transport.control := some e, transport.order := none }
  let s := if controlled ∨ s.transport.mode = .faultHold then s else s.failTransport .failed .preempted
  if s.takeable then s.giveOrder (.take e)
  else s.takeInPlace e stops

/-- R27: RECORD n. Already RECORDING, only the owner changes, with a mark if the flag is set. -/
def State.orderRecord (s : State) (e : Fin 16) (speed : Speed) (newStart : Bool) : State :=
  let s := { s with transport.control := some e }
  if s.transport.mode = .recording ∧ !s.stopInFlight then
    let s := { s with transport.owner := .program e, transport.order := none, transport.path := none }
    (if newStart then s.newStart (some e) else s).note (.recordEntered e newStart)
  else s.giveOrder (.record e speed newStart)

/-- R27: HOLD n. -/
def State.orderHold (s : State) (e : Fin 16) : State :=
  { s with transport.control := some e }.giveOrder (.hold e)

/-- R27: SPEED. -/
def State.orderSpeed (s : State) (e : Fin 16) (speed : Speed) : State := s.giveOrder (.speed e speed)

/-- A path of STOP. -/
def Goal.isStop : Goal → Bool
  | .stop _ => true
  | _ => false

/-- R27, R165: RELEASE. A host STOP in flight goes on; another request, in flight where the transport was never
taken, fails as at a TAKE (log 49). In FAULT_HOLD only program control changes. -/
def State.orderRelease (s : State) : State :=
  let controlled := s.transport.control.isSome
  let s := { s with transport.control := none, transport.order := none }
  if s.transport.mode = .faultHold ∨ (s.stopInFlight ∧ (controlled ∨ s.goalIs Goal.isStop)) then s
  else (s.failTransport .failed .preempted).stopPath

/-! ### BLOCK_RESET, safe stop, start (R21, R28, R29) -/

/-- The timers and the path's rest cleared. -/
def Transport.clearWork (t : Transport) : Transport :=
  { t with
      path := none, still := none, idle := none, stall := none, stopLimit := none, countdown := none
      order := none }

/-- R21: BLOCK_RESET of TRANSPORT. A cam move under way runs on, as a move to rest: where it is an EJECT's move from
HOUSED to EJECT, its arrival is no end of an eject (DESIGN CHOICE, log 83). At BETWEEN the mode is that of the safe stop until
the move down begins (log 57). The move to rest waits for no reel to stand still (log 64). -/
def State.resetTransport (s : State) : State :=
  let s := (s.failTransport .superseded .none).endMarkRun
  let s := { s with
    servo := { s.servo.stopAll with lastFail := none }, remaining := s.remaining.halt
    transport := s.transport.clearWork }
  let s := { s with transport.switchArmed := false }
  if s.transport.camMove.isSome then
    let s := { s with
      transport.path := some ⟨.rest, .waitMove, false, false⟩, transport.fault := .none }
    match s.transport.camMove with
    | some m =>
      if s.transport.mode = .faultHold then s.setMode (movingMode .stopped m.target m.up true) else s
    | none => s
  else
    let s := { s with
      transport.path := some ⟨.rest, .cam, false, false⟩, transport.fault := .none }
    s.setMode (safeMode s.sensors.cam)

/-- R28: the safe stop, the pinch released. The in-flight request is abandoned by the request unit. A FAULT_HOLD is left
by it, so its fault code becomes NONE (R21), and the mode it sets has the drum's reference INTERNAL (R31). -/
def State.safeStop (s : State) : State :=
  let fault := if s.transport.mode = .faultHold then .none else s.transport.fault
  let s := { s with
    servo := { s.servo.stopAll with drumRef := .internal }, remaining := s.remaining.halt
    position := { s.position.cutMark with detector := none, locate := none, segment := none } }
  { s with
      transport := { s.transport.clearWork with
        mode := safeMode s.sensors.cam, fault := fault, pinch := false, camMove := none, owner := .none
        control := none } }

/-- R29: the transport at a start. At BETWEEN the mode is that of the safe stop until the move down begins
(log 57). -/
def State.startTransport (s : State) : State :=
  let s := { s with
    transport := { Transport.reset with mode := safeMode s.sensors.cam, switchArmed := true } }
  { s with transport.path := some ⟨.rest, .cam, false, false⟩ }

end Sys2Proof.Machine
end

