-- ==== Sys2Proof/Machine/Scheduler.lean ====
section
/-! DEFINITION. The scheduler (chapters 8 and 9): validation, next starts and the due order; pre-roll,
start, advance, labels, tape budget, ends, hand-over and close of the occurrences. -/
namespace Sys2Proof.Machine

/-! ### Codes of 8.1 -/

def EntryState.code : EntryState → Nat
  | .unused => 0 | .disabled => 1 | .invalid => 2 | .armed => 3 | .preroll => 4 | .pending => 5
  | .waitingLabel => 6 | .recording => 7 | .labelPaused => 8 | .interrupted => 9 | .done => 10

def InvalidReason.code : InvalidReason → Nat
  | .none => 0 | .badTime => 1 | .badDate => 2 | .emptyPreset => 3 | .past => 4 | .zeroLength => 5

def MissCause.code : MissCause → Nat
  | .none => 0 | .noTape => 1 | .writeProtect => 2 | .dew => 3 | .tapeFull => 4 | .busy => 5
  | .fault => 6 | .power => 7 | .label => 8 | .clockStep => 9

/-- R164, order 3: the outcome code of a miss cause, MISSED_FAULT for none. -/
def MissCause.outcome : MissCause → Nat
  | .none => 13 | .noTape => 8 | .writeProtect => 9 | .dew => 10 | .busy => 11 | .tapeFull => 12
  | .fault => 13 | .power => 14 | .label => 15 | .clockStep => 16

/-- R128: the states in which an entry runs. -/
def EntryState.running : EntryState → Bool
  | .preroll => true | .pending => true | .waitingLabel => true | .recording => true
  | .labelPaused => true | .interrupted => true | _ => false

/-! ### Entries and run copies -/

/-- The entry numbers. -/
def entryNumbers : List (Fin 16) := List.finRange 16

/-- An entry replaced. -/
def State.setEntry (s : State) (n : Fin 16) (e : Entry) : State :=
  { s with scheduler.entries := s.scheduler.entries.set n e }

/-- R128: an entry's state replaced, its other fields kept. -/
def State.setEntryState (s : State) (n : Fin 16) (x : EntryState) : State :=
  s.setEntry n { s.entry n with owned.state := x }

/-- An entry's run copy replaced. -/
def State.setRun (s : State) (n : Fin 16) (r : RunCopy) : State :=
  s.setEntry n { s.entry n with run := some r }

/-- The run copy of an entry that runs. -/
def State.run (s : State) (n : Fin 16) : Option RunCopy := (s.entry n).run

/-- The holder (chapter 9). -/
def State.holder (s : State) : Option (Fin 16) :=
  entryNumbers.find? fun n => (s.run n).any (·.role == .holder)

/-- The holder with its run copy, if `n` is the holder. -/
def State.heldRun (s : State) (n : Fin 16) : Option RunCopy :=
  (s.run n).filter (·.role == .holder)

/-- R143: the occurrence time T. -/
def State.time (s : State) (r : RunCopy) : Int := r.anchorT + ((s.uptime : Int) - r.anchorUptime)

/-- R143: the programmed stop. -/
def RunCopy.stop (r : RunCopy) : Int := 60 * r.duration

/-- R143: the window end W. -/
def RunCopy.windowEnd (r : RunCopy) : Int :=
  if r.labelMode ∧ r.stop < 14400 then 14400 else r.stop

/-- R143: the minutes to the programmed stop, rounded up. -/
def RunCopy.minutesToStop (r : RunCopy) (t : Int) : Nat := ((r.stop - t + 59) / 60).toNat

/-! ### Configurations (R126, R134) -/

def ProgCfg.start (c : ProgCfg) : Nat := c.startHour * 60 + c.startMinute
def ProgCfg.stop (c : ProgCfg) : Nat := c.stopHour * 60 + c.stopMinute

/-- R126: the duration. -/
def ProgCfg.duration (c : ProgCfg) : Nat := (c.stop + 1440 * (c.start / 1440 + 1) - c.start) % 1440

/-- R134: the minutes from the start to the validation end. -/
def ProgCfg.validity (c : ProgCfg) : Nat :=
  if c.labelControl then max c.duration 240 else c.duration

/-- R126: the record speed; the fourth code is the default record speed last read. -/
def ProgCfg.speed (c : ProgCfg) (default : Speed) : Speed :=
  if c.speedCode = 3 then default else Speed.ofCode c.speedCode

/-- R126: the date of a ONCE entry. -/
def ProgCfg.date (c : ProgCfg) : Civil := ⟨c.year, c.month, c.day⟩

/-- Minutes from 1980-01-01 00:00 to a next start. -/
def NextStart.minutes (x : NextStart) : Nat := x.day * 1440 + x.minute

/-- R134: a date carries an occurrence of a repeat entry. -/
def ProgCfg.repeatsOn (c : ProgCfg) (day : Nat) : Bool :=
  match c.repetition with
  | .once => false
  | .daily => true
  | .weekdays => weekdayOf day ≤ 4
  | .weekly => weekdayOf day == c.day

/-- R135: the dates of the search: a ONCE entry's date; else from the day before the present one. -/
def ProgCfg.searchDays (c : ProgCfg) (today : Nat) : List Nat :=
  match c.repetition with
  | .once => if validDate c.date then [dayNumber c.date] else []
  | _ => ((List.range 17).map fun i => today + i - 1).filter c.repeatsOn

/-- R135: the conditions on an occurrence of date `day`. `test`: the window test is applied. -/
def ProgCfg.qualifies (c : ProgCfg) (last : Option Nat) (now : Nat) (test : Bool) (day : Nat) : Bool :=
  day ≤ Config.lastDay && last != some day
    && (!test || now < (day * 1440 + c.start + c.validity) * 60)

/-- R135: the next start. A repeat entry with no date left in the calendar's range has none, in UNSET too (R130,
log 69). -/
def State.nextStart (s : State) (c : ProgCfg) (last : Option Nat) : Option NextStart :=
  let test := s.scheduler.clockHanded != .unset
  ((c.searchDays s.clock.calendar.day).find? (c.qualifies last s.clock.calendar.seconds test)).map
    fun day => ⟨day, c.start⟩

/-! ### The checks (R130) -/

/-- R130: what the checks set. -/
structure Checked where
  state : EntryState
  invalid : InvalidReason
  next : Option NextStart
  deriving DecidableEq, Repr

/-- R130: checks 6 to 9. -/
def State.checkLate (s : State) (c : ProgCfg) (last : Option Nat) : Checked :=
  if c.repetition = .once ∧ last = some (dayNumber c.date) then ⟨.done, .none, none⟩
  else if !s.presetInUse c.preset then ⟨.invalid, .emptyPreset, none⟩
  else
    match s.nextStart c last with
    | none => ⟨.invalid, .past, none⟩
    | some x => ⟨.armed, .none, some x⟩

/-- R130, check 3. -/
def ProgCfg.badTime (c : ProgCfg) : Bool :=
  23 < c.startHour || 23 < c.stopHour || 59 < c.startMinute || 59 < c.stopMinute

/-- R130, check 5. -/
def ProgCfg.badDate (c : ProgCfg) : Bool :=
  match c.repetition with
  | .once => !validDate c.date
  | .weekly => 6 < c.day
  | _ => false

/-- R130: the checks of an entry that is not running. -/
def State.checkCfg (s : State) (c : ProgCfg) (last : Option Nat) : Checked :=
  if !c.program then ⟨.unused, .none, none⟩
  else if !c.enable then ⟨.disabled, .none, none⟩
  else if c.badTime then ⟨.invalid, .badTime, none⟩
  else if c.stop = c.start then ⟨.invalid, .zeroLength, none⟩
  else if c.badDate then ⟨.invalid, .badDate, none⟩
  else s.checkLate c last

/-- R130: what the checks came to is set. An entry found UNUSED loses its guard (R136). -/
def Owned.set (o : Owned) (k : Checked) : Owned :=
  { o with
      state := k.state, invalid := k.invalid, next := k.next
      lastClosed := if k.state = .unused then none else o.lastClosed }

/-- R130: the entry is checked from its validated copy. -/
def State.checkEntry (s : State) (n : Fin 16) : State :=
  let e := s.entry n
  s.setEntry n { e with owned := e.owned.set (s.checkCfg e.copy e.owned.lastClosed) }

/-! ### The due order (R138) -/

/-- R138, R149: `n` stands before `m`: an earlier next start, or the same and a lower number. A running entry whose next
start a host write has left none (R142) counts as one of minute 0, before the others (DESIGN CHOICE, log 99). -/
def State.dueBefore (s : State) (n m : Fin 16) : Bool :=
  let a := ((s.entry n).owned.next.map (·.minutes)).getD 0
  let b := ((s.entry m).owned.next.map (·.minutes)).getD 0
  a < b || (a == b && n ≤ m)

/-- An entry placed in the due order. -/
def State.duePlace (s : State) (n : Fin 16) : List (Fin 16) → List (Fin 16)
  | [] => [n]
  | m :: ms => if s.dueBefore n m then n :: m :: ms else m :: s.duePlace n ms

/-- R138: the due order is rebuilt. -/
def State.rebuildDue (s : State) : State :=
  let armed := entryNumbers.filter fun n => (s.entry n).owned.state == .armed
  { s with scheduler.due := armed.foldr s.duePlace [] }

/-! ### Orders of the advance (R147) and acquisition (R149) -/

/-- R147: the blocker. An eject under way counts as no cassette (log 42). -/
def State.blocker (s : State) : Option MissCause :=
  if s.transport.mode = .faultHold then some .fault
  else if s.transport.mode = .empty ∨ s.transport.mode = .ejecting then some .noTape
  else if !s.tab then some .writeProtect
  else if s.sensors.dew then some .dew
  else if s.remaining.fraction = some 0 ∨ s.sensors.endActive then some .tapeFull
  else none

/-- R151: a label record matches the occurrence whose start is `x`. -/
def LabelRecord.isOf (l : LabelRecord) (x : NextStart) : Bool :=
  let d := civilOf x.day
  l.day == d.day && l.month == d.month && l.hour * 60 + l.minute == x.minute

/-- R151: a label record matches the occurrence of entry `n`; none does where its next start is none (log 99). -/
def State.labelIsOf (s : State) (n : Fin 16) (l : LabelRecord) : Bool :=
  (s.entry n).owned.next.any l.isOf

/-- R147: the last label matches with status RUNNING, and LOST has not been handed since (R153, log 72). -/
def State.labelRuns (s : State) (n : Fin 16) (r : RunCopy) : Bool :=
  !r.lostSeen && r.lastLabel.any fun l => s.labelIsOf n l && l.status == .running

/-- R147: RECORD n at the speed in force, with the new-start flag equal to new-start due. -/
def State.giveRecord (s : State) (n : Fin 16) (r : RunCopy) : State :=
  s.orderRecord n r.speed r.newStart

/-- R147: the modes from which LABEL control gives TAKE first. R147 names LOADED, and EMPTY once the cassette is
housed; the model takes THREADING and UNTHREADING with them (log 91). -/
def Mode.untaken : Mode → Bool
  | .loaded => true | .threading => true | .unthreading => true | _ => false

/-- R149: a holder may be chosen. -/
def State.holderWanted (s : State) : Bool := s.holder.isNone && s.transport.owner != .manual

/-- R149: a running entry that may become the holder. -/
def State.candidate (s : State) (n : Fin 16) : Bool :=
  (s.entry n).owned.state.running && (s.entry n).owned.state != .interrupted && (s.run n).isSome

/-- R149: the running entry with the earliest programmed start. -/
def State.nextHolder (s : State) : Option (Fin 16) :=
  ((entryNumbers.filter s.candidate).foldr s.duePlace []).head?

/-- R86: some program holds the tuner. -/
def Tuner.byProgram (t : Tuner) : Bool :=
  t.owner == .record && (match t.holder with | .program _ => true | .manual => false)

/-- R149: the holder acquires the deck. With its preset gone it gives the transport no order. -/
def State.acquire (s : State) (n : Fin 16) (r : RunCopy) : State :=
  let s := s.setRun n { r with role := .holder }
  let present := s.presetInUse r.preset
  let s := if s.tuner.byProgram then s.tunerRetune n r.preset else s.tunerTake n r.preset
  if present then
    let s := s.orderTake n
    if (s.entry n).owned.state = .preroll ∧ 0 ≤ s.time r then s.setEntryState n .pending else s
  else s

/-- R149: a holder is chosen if there is none. -/
def State.chooseHolder (s : State) : State :=
  if s.holderWanted then
    match s.nextHolder with
    | none => s
    | some m =>
      match s.run m with
      | none => s
      | some r => s.acquire m r
  else s

/-! ### The close (R139, R140, R164, R165) -/

/-- How a close comes about: BLOCK_RESET of SCHEDULER or a line start, the host's edit of R132, a host
stop, or an end cause. -/
inductive Ending where
  | abandoned
  | edited
  | hostStop
  | cause (c : EndCause)
  deriving DecidableEq, Repr

/-- R164: the outcome code, or that of R132. -/
def outcomeCode (r : RunCopy) (e : Ending) : Nat :=
  match e with
  | .abandoned => 17
  | .edited => if 60 ≤ r.seconds ∨ r.segments ≠ 0 then 4 else 7
  | .hostStop => if r.segments = 0 then 7 else 4
  | .cause c =>
    if r.segments = 0 then (if c = .host then 7 else r.miss.outcome)
    else
      match c with
      | .tapeEnd => 3
      | .host => 4
      | .fault => 5
      | .power => 6
      | _ => if r.powerGap then 6 else if r.late ≠ 0 then 2 else 1

/-- 8.1: byte 28 of an entry. -/
def outcomeFlags (segments changes : Nat) (speed : Speed) : Byte :=
  BitVec.ofNat 8 (segments + 16 * changes + 64 * speed.code)

/-- 8.1: a counter in 24 bits, 0x800000 for none. -/
def counter24 (x : Option Int) : BitVec 24 :=
  match x with
  | some v => BitVec.ofInt 24 v
  | none => 0x800000

/-- R139: the report of a run copy. -/
def RunCopy.report (r : RunCopy) (code : Nat) : OutcomeRec :=
  { code := BitVec.ofNat 8 code, date := BitVec.ofNat 16 r.occDay
    actual := BitVec.ofNat 16 (r.actual.getD 0xFFFF)
    minutes := BitVec.ofNat 16 (min 65535 (r.seconds / 60)), late := BitVec.ofNat 16 r.late
    flags := outcomeFlags r.segments r.changes r.speed, counter := counter24 r.counterAt }

/-- R140: the report of an entry closed from ARMED. -/
def armedReport (code day : Nat) (speed : Speed) : OutcomeRec :=
  { OutcomeRec.reset with
      code := BitVec.ofNat 8 code, date := BitVec.ofNat 16 day, flags := outcomeFlags 0 0 speed }

/-- R140: the close writes the table, for the occurrence of date `day`. -/
def State.closeTable (s : State) (n : Fin 16) (report : OutcomeRec) (day : Nat) : State :=
  let e := s.entry n
  let copy := if s.claims.host.programs then e.copy else s.progCfg n
  let s := s.setEntry n
    { copy := copy, owned := { e.owned with outcome := report, lastClosed := some day }, run := none }
  (((s.checkEntry n).rebuildDue.touch 6).raise .program n.val).note .prerollTest

/-- R150: the tape goes on for `m` after a holder that was writing: its start has passed, its preset is the
one tuned, and the clock state is not UNSET (log 32). -/
def State.handsOver (s : State) (m : RunCopy) : Bool :=
  0 ≤ s.time m && s.tuner.base.any (fun b => b.preset == m.preset && b.preset != 0)
    && s.scheduler.clockHanded != .unset

/-- R150: the hand-over to `m`. -/
def State.handOver (s : State) (m : Fin 16) (r : RunCopy) : State :=
  let s := (s.setRun m { r with role := .holder }).tunerRetune m r.preset
  if !r.labelMode ∨ s.labelRuns m r then s.orderRecord m r.speed true
  else (s.setEntryState m .waitingLabel).orderHold m

/-- R165: the transport and the tuner after the holder's close. `writing`: it was writing. `stopped`: a
host stop has left the transport at rest. -/
def State.afterHolder (s : State) (writing stopped : Bool) : State :=
  match (if s.holderWanted then s.nextHolder else none) with
  | some m =>
    match s.run m with
    | none => s
    | some r => if writing && s.handsOver r then s.handOver m r else s.acquire m r
  | none =>
    let s := if stopped then s else s.orderRelease
    s.releaseRecord

/-- R165: the scheduler's need ends with the last running entry. -/
def State.someRuns (s : State) : Bool := entryNumbers.any fun n => (s.run n).isSome

/-- R167, R165: the scheduler's need is that some entry runs. -/
def State.syncSchedulerNeed (s : State) : State :=
  if s.power.schedulerNeed = s.someRuns then s else s.setSchedulerNeed s.someRuns

/-- R147: the transport writes for entry `n`, though its report RECORDING entered may still be on the way. -/
def State.writesFor (s : State) (n : Fin 16) : Bool :=
  s.transport.mode == .recording && s.transport.owner == .program n

/-- R164, R165: the occurrence of a running entry closes. -/
def State.close (s : State) (n : Fin 16) (why : Ending) : State :=
  match s.run n with
  | none => s
  | some r =>
    let writing := s.writesFor n
    let s := s.closeTable n (r.report (outcomeCode r why)) r.occDay
    let s :=
      if r.role = .holder then
        let s := if s.transport.owner = .program n then { s with transport.owner := .none } else s
        let s := if why = .hostStop then { s with transport.control := none } else s
        s.afterHolder writing (why = .hostStop)
      else s
    s.syncSchedulerNeed

/-- R140, R162, R163: an ARMED entry closes without having run. -/
def State.closeArmed (s : State) (n : Fin 16) (code : Nat) : State :=
  let e := s.entry n
  let day := (e.owned.next.map (·.day)).getD 0xFFFF
  s.closeTable n (armedReport code day (e.copy.speed s.servo.defaultSpeed)) day

/-! ### Validation (R129, R132) -/

/-- R132: a running entry with kind UNUSED or enable clear is closed. -/
def State.closeEdited (s : State) (n : Fin 16) : State :=
  let c := s.progCfg n
  if (s.run n).isSome ∧ !(c.program && c.enable) then s.close n .edited else s

/-- R129: an entry that is not running is read and checked. -/
def State.validateEntry (s : State) (n : Fin 16) : State :=
  if (s.run n).isSome then s
  else (s.setEntry n { s.entry n with copy := s.progCfg n }).checkEntry n

/-- R129: the validation; the pre-roll test follows at its end (R144), also over an entry whose own pre-roll it stops
with another next start that is due (log 94), but not at a mains-fail warning (log 95). The entries that R132 closes
close in the order of their numbers (log 43). -/
def State.validate (s : State) : State :=
  let s := entryNumbers.foldl State.closeEdited s
  ((entryNumbers.foldl State.validateEntry s).rebuildDue).note .prerollTest

/-- R129, R194: a host hold on PROGRAMS is revoked, with the validation. -/
def State.revokePrograms (s : State) : State :=
  if s.claims.host.programs then (s.revoke .programs).validate else s

/-- R84, R194: a host hold on PRESETS is revoked, and the tuner reads its selection. -/
def State.revokePresets (s : State) : State :=
  if s.claims.host.presets then (s.revoke .presets).rereadSelection else s

/-! ### Steps, ticks and notices (R137, R163) -/

/-- R137: the states that a recomputation reads. -/
def Owned.recomputed (o : Owned) : Bool :=
  match o.state with
  | .armed => true
  | .done => true
  | .invalid => o.invalid == .past
  | _ => false

/-- R137: checks 6 to 9 of an entry that is not running, from its validated copy. -/
def State.recomputeEntry (s : State) (n : Fin 16) : State :=
  let e := s.entry n
  if e.run.isNone ∧ e.owned.recomputed then
    s.setEntry n { e with owned := e.owned.set (s.checkLate e.copy e.owned.lastClosed) }
  else s

/-- R137: the recomputation. -/
def State.recompute (s : State) : State := (entryNumbers.foldl State.recomputeEntry s).rebuildDue

/-- R163: the step from `old` to `new`, in seconds, passes the whole window of an ARMED entry. -/
def Entry.passed (e : Entry) (old new : Nat) : Bool :=
  e.owned.state == .armed && e.owned.next.any fun x =>
    old < x.minutes * 60 && (x.minutes + e.copy.validity) * 60 ≤ new

/-- R163: an entry whose window the step passes closes with MISSED_CLOCK_STEP. -/
def State.stepEntry (old new : Nat) (s : State) (n : Fin 16) : State :=
  if (s.entry n).passed old new then s.closeArmed n 16 else s

/-- R137: the clock state handed is the one last handed. -/
def State.handClock (s : State) : State := { s with scheduler.clockHanded := s.clock.state }

/-- R137, R163: the clock leaves UNSET. Nothing is closed or started late by it, so the pre-roll test takes
only starts that have not passed (log 45), and the holder is advanced. -/
def State.leaveUnset (s : State) : State := ((s.recompute).note .prerollOnTime).note .clockSet

/-- R137, R163: a step, with the pre-roll test at the end of its recomputation (R144). -/
def State.stepHanded (s : State) (old new : Nat) : State :=
  let before := s.scheduler.clockHanded
  let s := s.handClock
  if before = .unset then s.leaveUnset
  else ((entryNumbers.foldl (State.stepEntry old new) s).recompute).note .prerollTest

/-- R115, R163: the clock becomes UNSET. A RECORD order in flight for a holder that is not writing is replaced: by
HOLD where it waits for its label or is paused by it, else by TAKE, with the miss cause CLOCK_STEP (log 71). -/
def State.holdBack (s : State) : State :=
  match s.holder, s.transport.order with
  | some n, some (.record _ _ _) =>
    let s := match s.run n with
      | some r => s.setRun n { r with miss := .clockStep }
      | none => s
    match (s.entry n).owned.state with
    | .recording => s
    | .waitingLabel => s.orderHold n
    | .labelPaused => s.orderHold n
    | _ => s.orderTake n
  | _, _ => s

/-- R137: a state notice. -/
def State.noticeHanded (s : State) : State :=
  let before := s.scheduler.clockHanded
  let s := s.handClock
  if s.clock.state = .unset then s.holdBack
  else if before = .unset then s.leaveUnset
  else s

/-! ### Advance and start (R146, R147, R153) -/

/-- R153: LOST makes the control mode CLOCK. -/
def State.lostConverts (s : State) (r : RunCopy) : Bool := s.time r < r.stop || r.matched

/-- R147: an order is in flight, so its report is awaited (log 31). -/
def State.orderWaits (s : State) : Bool := s.transport.order.isSome

/-- R147, LABEL control: a label that runs is recorded, another is waited for. -/
def State.advanceLabel (s : State) (n : Fin 16) (r : RunCopy) : State :=
  if s.labelRuns n r then s.giveRecord n r
  else if s.transport.mode.untaken then s.orderTake n
  else s.orderHold n

/-- R147: the advance with no blocker, a clock that is set, and T at 0 or more. -/
def State.advanceStarted (s : State) (n : Fin 16) (r : RunCopy) : State :=
  if !r.labelMode then s.giveRecord n r
  else if r.lostSeen ∧ s.lostConverts r then
    let s := s.setRun n { r with labelMode := false }
    if r.stop ≤ s.time r then s.close n (.cause .window) else s.giveRecord n r
  else s.advanceLabel n r

/-- R24: the recording owner leaves an entry that returns to PENDING, once the transport is out of RECORDING
and RECORD_PAUSE, where it may not be NONE (log 50). -/
def State.freeOwner (s : State) (n : Fin 16) : State :=
  if s.transport.owner = .program n ∧ !s.transport.mode.records then
    { s with transport.owner := .none }
  else s

/-- R147, R24: an entry becomes PENDING. -/
def State.pend (s : State) (n : Fin 16) : State := (s.freeOwner n).setEntryState n .pending

/-- R147: the advance of the holder, which is not writing. -/
def State.advance (s : State) (n : Fin 16) : State :=
  match (if s.writesFor n then none else s.heldRun n) with
  | none => s
  | some r =>
    match s.blocker with
    | some b =>
      let s := s.setRun n { r with miss := b }
      if 0 ≤ s.time r then s.pend n else s
    | none =>
      if s.scheduler.clockHanded = .unset then s.setRun n { r with miss := .clockStep }
      else if s.orderWaits then s
      else if s.time r < 0 then
        if s.transport.mode = .still then s else s.orderTake n
      else s.advanceStarted n r

/-- R163: the holder is advanced, if it is not writing. -/
def State.advanceHolder (s : State) : State :=
  match s.holder with
  | none => s
  | some n => if (s.entry n).owned.state = .recording then s else s.advance n

/-- R143: the holder's T is at 0 or more. -/
def State.holderStarted (s : State) : Bool :=
  s.holder.any fun n => (s.run n).any fun r => decide (0 ≤ s.time r)

/-- R147: the holder is advanced by an event, when T is at 0 or more and it is not writing. -/
def State.pokeHolder (s : State) : State := if s.holderStarted then s.advanceHolder else s

/-- R146: the start of an occurrence that is still running after the revocations. -/
def State.startRun (s : State) (n : Fin 16) (r : RunCopy) : State :=
  match r.role with
  | .waiter => (s.setRun n { r with miss := .busy }).setEntryState n .pending
  | .holder => if s.orderWaits then s else s.advance n

/-- R146: T reaches 0. -/
def State.startEntry (s : State) (n : Fin 16) : State :=
  match s.run n with
  | none => s
  | some r =>
    if r.startTaken ∨ s.time r < 0 ∨ (s.entry n).owned.state = .interrupted then s
    else
      let s := s.setRun n { r with startTaken := true }
      if (s.entry n).owned.state = .recording then s
      else
        let s := s.revokePrograms.revokePresets
        match s.run n with
        | none => s
        | some r => s.startRun n r

/-- R154: T reaches the window end. -/
def State.windowEnd (s : State) (n : Fin 16) : State :=
  match s.run n with
  | none => s
  | some r =>
    if r.windowTaken ∨ s.time r < r.windowEnd ∨ (s.entry n).owned.state = .interrupted then s
    else if (s.entry n).owned.state = .recording ∧ r.labelMode then
      s.setRun n { r with windowTaken := true }
    else s.close n (.cause .window)

/-! ### Pre-roll (R144, R145) -/

/-- R131, R143, R145: the run copy taken at a pre-roll. -/
def State.runOf (s : State) (c : ProgCfg) (x : NextStart) : RunCopy :=
  { cfg := c, occDay := x.day, duration := c.duration, preset := c.preset
    labelControl := c.labelControl, autoSpeed := c.autoSpeed, anchorUptime := s.uptime
    anchorT := (s.clock.calendar.seconds : Int) - (x.minutes * 60 : Nat), role := .waiter
    labelMode := c.labelControl, matched := false, labelStart := none, lastLabel := none
    lostSeen := false, endTimer := none, miss := .none, newStart := true
    speed := c.speed s.servo.defaultSpeed, holdOff := none, endCause := .none, powerGap := false
    seconds := 0, segments := 0, actual := none, counterAt := none, late := 0, changes := 0
    startTaken := false, windowTaken := false }

/-- R144: an ARMED entry qualifies for its pre-roll. -/
def State.prerolls (s : State) (n : Fin 16) : Bool :=
  let o := (s.entry n).owned
  s.scheduler.clockHanded != .unset && o.state == .armed
    && o.next.any fun x => x.minutes * 60 ≤ s.clock.calendar.seconds + 60

/-- R137: an entry's start lies before the calendar's value. -/
def State.startPassed (s : State) (n : Fin 16) : Bool :=
  (s.entry n).owned.next.any fun x => x.minutes * 60 < s.clock.calendar.seconds

/-- R145, steps 3 to 5. -/
def State.enterPreroll (s : State) (n : Fin 16) (x : NextStart) : State :=
  let e := s.entry n
  let r := s.runOf e.copy x
  let s := s.setEntry n { e with owned.state := .preroll, run := some r }
  let s := { s with scheduler.due := s.scheduler.due.filter (· ≠ n) }
  let s := s.setSchedulerNeed true
  let s := if s.holderWanted then s.acquire n r else s.setRun n { r with miss := .busy }
  (s.note (.start n)).note (.windowEnd n)

/-- R133, R145: a pre-roll. It goes on only while the entry stays ARMED with the same next start. One that the
validation gives another next start stays ARMED here; where that start is due too, the test at the validation's end
(R144) pre-rolls it later in the same event, which R133 leaves open (DESIGN CHOICE, log 94). -/
def State.preroll (s : State) (n : Fin 16) : State :=
  if s.prerolls n then
    let next := (s.entry n).owned.next
    let s := s.revokePrograms
    if (s.entry n).owned.state = .armed ∧ (s.entry n).owned.next = next then
      match next with
      | none => s
      | some x => s.revokePresets.enterPreroll n x
    else s
  else s

/-- R144: the entries of a list pre-roll one after another. With PROGRAMS held only the first does: the test
of the validation that its revocation brings serves the others, in the new due order (R133). -/
def State.prerollEach (s : State) (who : List (Fin 16)) : State :=
  (if s.claims.host.programs then who.take 1 else who).foldl State.preroll s

/-- R144: the test, over the due order as it stands. -/
def State.prerollTest (s : State) : State := s.prerollEach (s.scheduler.due.filter s.prerolls)

/-- R137, R144: the test as the clock leaves UNSET: no start that has passed. The validation that a revocation of
PROGRAMS brings in it makes its own test, over every start (log 45). -/
def State.prerollOnTime (s : State) : State :=
  s.prerollEach (s.scheduler.due.filter fun n => s.prerolls n && !s.startPassed n)

/-- R137, R144: a minute tick serves the pre-roll test. -/
def State.tickHanded (s : State) : State := s.handClock.prerollTest

/-! ### Reports of the transport (R147, R148, R158, R159) -/

/-- R148: the late minutes of a first writing at T. -/
def RunCopy.lateAt (r : RunCopy) (t : Int) : Nat :=
  let d := if r.labelMode then t - r.labelStart.getD 0 else t
  min 1439 (d.toNat / 60)

/-- R148: the counts of the first writing. -/
def State.firstWriting (s : State) (r : RunCopy) : RunCopy :=
  if r.actual.isSome then r
  else
    { r with
        actual := some s.clock.calendar.minute, counterAt := some s.position.counter
        late := r.lateAt (s.time r) }

/-- R147, R148: RECORDING has been entered. New-start due is cleared here and not as the RECORD order is given, which
R147 leaves open: an order that fails or is replaced leaves it set (DESIGN CHOICE, log 82). -/
def State.recordEntered (s : State) (n : Fin 16) (newStart : Bool) : State :=
  match s.heldRun n with
  | none => s
  | some r =>
    let r := s.firstWriting r
    let r := if newStart then { r with newStart := false, segments := min 15 (r.segments + 1) } else r
    (s.setRun n r).setEntryState n .recording

/-- R147: RECORD_PAUSE has been entered. A record, or the loss of the label, that came while the order was
in flight then acts (log 31). -/
def State.pauseEntered (s : State) (n : Fin 16) : State :=
  match s.heldRun n with
  | none => s
  | some r =>
    let s :=
      if r.matched then s.setEntryState n .labelPaused
      else (s.setRun n { r with miss := .label }).setEntryState n .waitingLabel
    if !r.labelMode ∨ s.labelRuns n r then s.advance n else s

/-- R158, R159: the holder is blocked: PENDING, or PREROLL before its start. -/
def State.block (s : State) (n : Fin 16) (r : RunCopy) (b : MissCause) : State :=
  let s := s.setRun n { r with miss := b }
  if (s.entry n).owned.state = .preroll ∧ s.time r < 0 then s else s.pend n

/-- R157, R158: the tape has come to its end. A holder that writes, be it in the pause of a speed switch, is
closed by it; an order that has not begun writing has failed. -/
def State.tapeOut (s : State) (n : Fin 16) : State :=
  match s.heldRun n with
  | none => s
  | some r =>
    if (s.entry n).owned.state = .recording then s.close n (.cause .tapeEnd)
    else (s.setRun n { r with miss := .tapeFull }).pend n

/-- R158: SERVO_FAIL or REEL_STALL. -/
def State.servoFaulted (s : State) (n : Fin 16) : State :=
  match s.heldRun n with
  | none => s
  | some r => (s.setRun n { r with miss := .fault }).close n (.cause .fault)

/-- R158: a host stop. -/
def State.hostStopped (s : State) (n : Fin 16) : State :=
  match s.heldRun n with
  | none => s
  | some _ => s.close n .hostStop

/-- R159, R24: the recording owner becomes NONE and a new start is due. -/
def State.interruptTape (s : State) (n : Fin 16) (b : MissCause) : State :=
  match s.heldRun n with
  | none => s
  | some r =>
    let s := if s.transport.owner = .program n then { s with transport.owner := .none } else s
    s.block n { r with newStart := true } b

/-- R159: a cam jam. -/
def State.jammed (s : State) (n : Fin 16) : State :=
  match s.heldRun n with
  | none => s
  | some _ => (s.interruptTape n .fault).pend n

/-- R149: the tuner's answer EMPTY_PRESET closes the occurrence. -/
def State.emptyPresetAnswer (s : State) (n : Fin 16) : State :=
  match s.heldRun n with
  | none => s
  | some _ => s.close n (.cause .host)

/-! ### Labels (R151 to R153) -/

/-- R147, R163: RECORD n is given; while the clock is UNSET no occurrence starts writing. -/
def State.recordIfSet (s : State) (n : Fin 16) (r : RunCopy) : State :=
  if s.scheduler.clockHanded = .unset then s.setRun n { r with miss := .clockStep }
  else s.giveRecord n r

/-- R151, phase BEFORE: the matching label is RUNNING. -/
def State.labelFound (s : State) (n : Fin 16) (r : RunCopy) : State :=
  let r := { r with matched := true, labelStart := some (s.time r) }
  let s := s.setRun n r
  if (s.entry n).owned.state = .waitingLabel then s.recordIfSet n r else s

/-- R151, phase MATCHED: the matching label, by its status. -/
def State.labelFollows (s : State) (n : Fin 16) (r : RunCopy) (st : LabelStatus) : State :=
  match st with
  | .running =>
    let r := { r with endTimer := none }
    let s := s.setRun n r
    if (s.entry n).owned.state = .labelPaused then s.recordIfSet n r else s
  | .interrupted =>
    let s := s.setRun n { r with endTimer := none }
    if (s.entry n).owned.state = .recording then s.orderHold n else s
  | .notRunning =>
    if r.endTimer.isSome then s
    else s.setRun n { r with endTimer := some (s.after Config.endOfLabel) }

/-- R151: a label record handed to the holder `n`, which follows labels. -/
def State.labelActs (s : State) (n : Fin 16) (r : RunCopy) (l : LabelRecord) (lost : Bool) : State :=
  let r := { r with lastLabel := some l, lostSeen := lost }
  let s := s.setRun n r
  if r.matched then
    if s.labelIsOf n l then s.labelFollows n r l.status
    else if l.status = .running then s.close n (.cause .labelEnd)
    else s
  else if s.labelIsOf n l ∧ l.status = .running then s.labelFound n r
  else s

/-- R107, R151, R153: LOST is handed set to the holder `n`, which follows labels. The record handed with it becomes
the last label and does nothing else (log 72). -/
def State.lostActs (s : State) (n : Fin 16) (r : RunCopy) (l : Option LabelRecord) : State :=
  let r := { r with lastLabel := l.or r.lastLabel, lostSeen := true, endTimer := none }
  if s.lostConverts r then
    let r := { r with labelMode := false }
    let s := s.setRun n r
    if r.stop ≤ s.time r then s.close n (.cause .window)
    else
      match (s.entry n).owned.state with
      | .waitingLabel => s.recordIfSet n r
      | .labelPaused => s.recordIfSet n r
      | _ => s
  else s.setRun n r

/-- R153: a clearing handed to the holder `n`. -/
def State.clearingActs (s : State) (n : Fin 16) (r : RunCopy) : State :=
  s.setRun n { r with lastLabel := none, lostSeen := false, endTimer := none }

/-- R151: what the decoder hands acts on the holder alone, while it follows labels. -/
def State.onLabelHolder (s : State) (f : Fin 16 → RunCopy → State) : State :=
  match s.holder with
  | none => s
  | some n =>
    match s.run n with
    | none => s
    | some r => if r.labelMode then f n r else s

/-- R152: the end-of-label timer runs out. -/
def State.labelTimeout (s : State) (n : Fin 16) : State :=
  match s.heldRun n with
  | none => s
  | some r => if r.endTimer.isSome then s.close n (.cause .labelEnd) else s

/-! ### The tape budget (R156, R157) -/

/-- R156: the required figure Q. -/
def State.required (s : State) (r : RunCopy) : Nat :=
  let announced := (r.lastLabel.map (·.duration)).getD 0
  if r.labelMode ∧ r.matched ∧ announced ≠ 0 then announced - r.seconds / 60
  else r.minutesToStop (s.time r)

/-- A SPEED order is in flight. -/
def Transport.speeding (t : Transport) : Bool :=
  match t.order with
  | some (.speed _ _) => true
  | _ => false

/-- R156: the budget is evaluated. -/
def State.budgetOpen (s : State) (n : Fin 16) (r : RunCopy) : Bool :=
  r.autoSpeed && (s.entry n).owned.state == .recording && r.speed != .extended && r.changes < 2
    && r.holdOff.isNone && !s.transport.speeding

/-- R157: the speed that the budget switches to. -/
def State.budgetSpeed (s : State) (r : RunCopy) (q : Nat) : Speed :=
  if r.speed = .standard ∧ s.remaining.rL.any (fun m => q + 1 ≤ m) then .long else .extended

/-- R156, R157: the budget at a new remaining figure. -/
def State.budget (s : State) (n : Fin 16) (r : RunCopy) : State :=
  if s.budgetOpen n r then
    match s.remaining.atSpeed r.speed with
    | none => s
    | some left =>
      let q := s.required r
      if left < q + 1 then
        let speed := s.budgetSpeed r q
        (s.setRun n { r with
          speed := speed, changes := r.changes + 1
          holdOff := some (s.after Config.budgetHoldOff) }).orderSpeed n speed
      else s
  else s

/-- R73, R147, R156: a new remaining figure is handed. -/
def State.figureHanded (s : State) : State :=
  match s.holder with
  | none => s
  | some n =>
    match s.run n with
    | none => s
    | some r =>
      if (s.entry n).owned.state = .recording then s.budget n r else s.pokeHolder

/-- R156: the budget hold-off runs out. -/
def State.holdOffOut (s : State) (n : Fin 16) : State :=
  match s.run n with
  | none => s
  | some r => s.setRun n { r with holdOff := none }

/-! ### BLOCK_RESET, mains failure and starts (R160 to R162, R141, R142) -/

/-- R160: a waiter's close by BLOCK_RESET. -/
def State.abandonWaiter (s : State) (n : Fin 16) : State :=
  if (s.run n).any (·.role == .waiter) then s.close n .abandoned else s

/-- R160: every running occurrence closes, the waiters before the holder so that none of them becomes the
holder in between (log 43). -/
def State.abandonAll (s : State) : State :=
  let s := entryNumbers.foldl State.abandonWaiter s
  match s.holder with
  | none => s
  | some n => s.close n .abandoned

/-- R160: BLOCK_RESET of SCHEDULER. -/
def State.resetScheduler (s : State) : State := s.abandonAll.validate

/-- R161: the run copy at the mains-fail warning. -/
def RunCopy.interrupt (r : RunCopy) : RunCopy :=
  { r with
      powerGap := true, newStart := true, miss := .power, endTimer := none, holdOff := none
      role := .waiter }

/-- R161: a running entry becomes INTERRUPTED. -/
def State.interruptEntry (s : State) (n : Fin 16) : State :=
  match s.run n with
  | none => s
  | some r => (s.setRun n r.interrupt).setEntryState n .interrupted

/-- R161, R141: the scheduler at the mains-fail warning. The pre-roll test at the end of the validation (R144) is not
made: the signal for it is dropped as the part enters RETAIN (DESIGN CHOICE, log 95). -/
def State.interruptAll (s : State) : State :=
  (entryNumbers.foldl State.interruptEntry s).revokePrograms

/-- R162: an entry taken as INTERRUPTED is closed or becomes PENDING. -/
def State.resumeEntry (s : State) (n : Fin 16) : State :=
  let s := s.closeEdited n
  match s.run n with
  | none => s
  | some r =>
    if s.time r < r.windowEnd then
      (s.setRun n { r with startTaken := decide (0 ≤ s.time r) }).setEntryState n .pending
    else s.close n (.cause .power)

/-- R162: the window of an ARMED entry has passed wholly in RETAIN. -/
def State.missedPower (s : State) (n : Fin 16) : Bool :=
  let e := s.entry n
  e.owned.state == .armed && e.owned.next.any fun x =>
    (x.minutes + e.copy.validity) * 60 ≤ s.clock.calendar.seconds

/-- R162: an ARMED entry whose window has passed wholly in RETAIN closes. -/
def State.missPower (s : State) (n : Fin 16) : State := s.closeArmed n 14

/-- R162: the scheduler at a warm start, from the entries read of deck memory. The entries that have missed their
windows are those ARMED in deck memory, and none that this event's own closes arm. -/
def State.resumeAll (s : State) : State :=
  let missed := entryNumbers.filter s.missedPower
  let s := entryNumbers.foldl State.resumeEntry s
  let s := (s.syncSchedulerNeed).chooseHolder
  (missed.foldl State.missPower s).validate

/-- R162: an entry in a running state at a line start closes with ABANDONED. -/
def State.abandonEntry (s : State) (n : Fin 16) : State := s.close n .abandoned

/-- R142, R162: the scheduler at a line start. -/
def State.abandonStart (s : State) : State := (entryNumbers.foldl State.abandonEntry s).validate

end Sys2Proof.Machine
end

