-- ==== Sys2Proof/Machine/Flags.lean ====
section
/-! DEFINITION. What the host reads or sees of the state outside deck memory: the register words (R196), the
attention line and its cause (R200), the WAIT line (R197), the indicator lines (R201). -/
namespace Sys2Proof.Machine

/-! ### Registers (R196) -/

/-- R196: the word of IDENT. -/
def State.identWord (s : State) : Word :=
  if s.port.selector then
    BitVec.ofNat 16
      (1 + 256 * bit (s.port.mode == .serial) + 512 * s.power.startKind.code
        + 2048 * bit s.power.lostLatch)
  else 0x0420

/-- Three holds in three bits, PROGRAMS lowest (R196). -/
def Holds.bits (h : Holds) : Nat := bit h.programs + 2 * bit h.presets + 4 * bit h.settings

/-- R196: the word of CLAIM. -/
def State.claimWord (s : State) : Word :=
  BitVec.ofNat 16 (s.claims.host.bits + 16 * s.claims.engine.bits)

/-- R196: the word of LEVEL. -/
def State.levelWord (s : State) : Word := s.presenter.cl.setWidth 16

/-! ### Attention (R200) -/

/-- R200: a cause is presentable. -/
def Presenter.presentable (p : Presenter) (c : Cause) : Bool := c.kind.level < p.cl.toNat

/-- R200: the most favoured presentable cause; the set is kept in that order. -/
def Presenter.favoured (p : Presenter) : Option Cause := p.pending.find? p.presentable

/-- R200: the word a read of ATTENTION returns: the old CL, the kind, the detail. -/
def State.attentionWord (s : State) : Word :=
  match s.presenter.favoured with
  | none => s.presenter.cl.setWidth 16
  | some c => BitVec.ofNat 16 (s.presenter.cl.toNat + 16 * c.kind.code + 256 * c.detail)

/-- R196, R200: the attention line. -/
def State.attentionLine (s : State) : Bool :=
  s.on && s.presenter.throttle.isNone && s.presenter.favoured.isSome

/-- R197: the WAIT line. -/
def State.waitLine (s : State) : Bool := s.on && s.port.held.isSome

/-! ### Indicator lines (R201) -/

/-- R201: uptime's sub-second phase, which goes on where uptime holds (R112, log 35). -/
def State.blinkPhase (s : State) : Nat := s.timeBase % Config.hz

/-- R201: lit at 1 Hz. -/
def State.blink1 (s : State) : Bool := s.blinkPhase ≤ 16383

/-- R201: lit at 2 Hz. -/
def State.blink2 (s : State) : Bool :=
  s.blinkPhase ≤ 8191 || (16384 ≤ s.blinkPhase && s.blinkPhase ≤ 24575)

/-- R201: some entry is ARMED or runs. -/
def State.timerSet (s : State) : Bool :=
  entryNumbers.any fun n =>
    (s.entry n).owned.state == .armed || (s.entry n).owned.state.running

/-- R201: the source lights its line. -/
def State.sourceLit (s : State) : Lamp → Bool
  | .off => false
  | .on => true
  | .recording =>
    s.transport.mode == .recording || (s.transport.mode == .recordPause && s.blink1)
  | .timerArmed => s.timerSet
  | .timerNoTape =>
    s.timerSet && (s.transport.mode == .empty || !s.tab) && s.blink2
  | .cassette => s.transport.mode != .empty
  | .locked => s.servo.drum == .phaseLocked && s.servo.cap == .phase
  | .label => s.decoder.current.any (·.status == .running) && !s.decoder.lost
  | .clockUnset => s.clock.state == .unset && s.blink1
  | .fault => s.transport.fault != .none
  | .powerActive => s.power.state == .active

/-- R201: an indicator line; dark in RETAIN and while the reset line holds the part. -/
def State.lampLit (s : State) (line : Fin 4) : Bool := s.on && s.sourceLit s.lamps[line]

end Sys2Proof.Machine
end

