-- ==== Sys2Proof/Machine/Images.lean ====
section
/-! DEFINITION. What the part writes into deck memory as records (8.1, 11.5): the status groups, the tape
map, the label context record, the part-owned fields of an entry and its retained run record; and the
reading back of an entry at a warm or line start (R142). -/
namespace Sys2Proof.Machine

/-! ### Codes of 11.5 -/

def DrumState.code : DrumState → Nat
  | .off => 0 | .spinningUp => 1 | .speedLocked => 2 | .phaseLocked => 3

def Detection.code : Detection → Nat
  | .none => 0 | .full _ _ => 1 | .confirm _ _ => 2

def DeadlineKind.code : DeadlineKind → Nat
  | .drumLock => 1 | .drumRelock => 2 | .capstanLock => 3 | .capstanHold => 4 | .capstanRelock => 5

def AutoSearch.code : AutoSearch → Nat
  | .idle => 0 | .pending => 1 | .coarse _ => 2 | .fine _ _ _ => 3

def CounterSource.code : CounterSource → Nat
  | .read => 0 | .estimated => 1 | .held => 2

def Origin.code : Origin → Nat
  | .written => 1 | .seen => 2

def LastResult.code : LastResult → Nat
  | .none => 0 | .value => 1 | .inconclusive => 2

def LabelStatus.code : LabelStatus → Nat
  | .notRunning => 0 | .running => 1 | .interrupted => 2

/-- 11.5: a cam position, BETWEEN 5. -/
def CamAt.code : CamAt → Nat
  | .at p => p.code
  | .between _ => 5

def RecOwner.code : RecOwner → Nat
  | .none => 0 | .manual => 1 | .program _ => 2

/-- A number as one byte. -/
def byteOf (n : Nat) : Byte := BitVec.ofNat 8 n

/-- An entry number as one byte, 0xFF for none. -/
def entryByte (e : Option (Fin 16)) : Byte := byteOf ((e.map (·.val)).getD 0xFF)

/-- 11.5: a word that may be UNKNOWN or none. -/
def optWord (x : Option Nat) : List Byte := le16 (x.getD 0xFFFF)

/-! ### The status groups -/

/-- The TRANSPORT group. -/
def State.transportGroup (s : State) : List Byte :=
  let t := s.transport
  let x := s.sensors
  let entry := match t.owner with
    | .program n => some n
    | _ => none
  padTo 16
    [byteOf t.mode.code, byteOf x.cam.code, byteOf t.owner.code, entryByte entry,
      byteOf (bit x.switchClosed + 2 * bit s.tab + 4 * bit x.startActive
        + 8 * bit x.endActive + 16 * bit x.dew),
      byteOf t.fault.reason.code]

/-- 11.5: a measurement, 0 while it is invalid (log 29). -/
def measureValue (m : Option Measure) : Nat := (m.map (·.value)).getD 0

/-- 11.5: a measurement's speed factor and validity in three bits (log 29). -/
def measureBits (m : Option Measure) : Nat :=
  match m with
  | some v => v.factor % 4 + 4
  | none => 0

/-- The TAPE group. -/
def State.tapeGroup (s : State) : List Byte :=
  let v := s.servo
  let p := s.position
  let r := s.remaining
  padTo 64
    ([byteOf v.drum.code, byteOf v.detection.code, byteOf (v.recSpeed.code + 4 * v.playSpeed.code),
      byteOf ((v.lastFail.map (·.code)).getD 0), signed8 v.tracking, byteOf v.auto.code, 0, 0]
    ++ signed32 p.counter
    ++ [byteOf p.source.code, byteOf (p.map.length % 32 + 128 * bit p.mapFull)]
    ++ le16 (measureValue r.ks) ++ le16 (measureValue r.ku)
    ++ [byteOf (measureBits r.ks + 16 * measureBits r.ku), byteOf r.last.code]
    ++ optWord r.fraction ++ optWord r.rS ++ optWord r.rL ++ optWord r.rE)

/-- The TUNER group. -/
def State.tunerGroup (s : State) : List Byte :=
  let t := s.tuner
  let direct := match t.selection with
    | .direct d => d
    | _ => 0
  padTo 32
    ([byteOf t.owner.code, byteOf t.selectedPreset] ++ le16 direct ++ le16 (t.effectiveN.getD 0)
    ++ [byteOf t.band.code, byteOf t.aft.code, byteOf t.signal.code,
      byteOf ((t.scan.map (·.stored)).getD 0)]
    ++ le16 ((t.scan.map (·.step)).getD 0))

/-- 11.5: whether a current record is held, and LOST. -/
def Decoder.flags (d : Decoder) : Byte := byteOf (bit d.current.isSome + 2 * bit d.lost)

/-- The LABEL group. -/
def State.labelGroup (s : State) : List Byte :=
  let d := s.decoder
  let fields : List Byte := match d.current with
    | some r => [byteOf r.day, byteOf r.month, byteOf r.hour, byteOf r.minute, byteOf r.status.code]
    | none => zeros 5
  padTo 16 (le16 d.code ++ [d.flags, byteOf d.miss] ++ fields)

/-- The CLOCK group. -/
def State.clockGroup (s : State) : List Byte :=
  let c := s.clock.calendar
  let d := civilOf c.day
  padTo 16
    (le16 d.year ++ [byteOf d.month, byteOf d.day, byteOf c.hour, byteOf (c.sec / 60 % 60),
      byteOf (c.sec % 60), byteOf (weekdayOf c.day), byteOf s.clock.state.code,
      byteOf (bit s.clock.suspended)])

/-- The POWER group. -/
def State.powerGroup (s : State) : List Byte :=
  let p := s.power
  padTo 16
    [byteOf p.state.code, byteOf p.wake.code, byteOf p.supply.code,
      byteOf (bit p.transportNeed + 2 * bit p.schedulerNeed + 4 * bit p.hostNeed)]

/-- The SCHEDULER group. The running entry is the one that holds program control (R138). -/
def State.schedulerGroup (s : State) : List Byte :=
  let due := s.scheduler.due
  let head := due.head?
  let next := head.bind fun n => (s.entry n).owned.next
  let list := due.map fun n => byteOf n.val
  padTo 32
    ([byteOf due.length, entryByte s.transport.control, entryByte head, 0]
    ++ optWord (next.map (·.day)) ++ optWord (next.map (·.minute))
    ++ list ++ List.replicate (16 - list.length) 0xFF)

/-- R180: the image of a status group. -/
def State.group (s : State) : Nat → List Byte
  | 0 => s.transportGroup
  | 1 => s.tapeGroup
  | 2 => s.tunerGroup
  | 3 => s.labelGroup
  | 4 => s.clockGroup
  | 5 => s.powerGroup
  | _ => s.schedulerGroup

/-! ### Tape map and label context -/

/-- 11.5: an entry of the tape map. -/
def MapEntry.image (e : MapEntry) : List Byte :=
  signed32 e.position ++ [byteOf e.origin.code, entryByte e.program, 0, 0]

/-- R53: the tape map. -/
def State.tapeMapImage (s : State) : List Byte :=
  padTo 192 ((s.position.map.take 24).flatMap MapEntry.image)

/-- R109: the label context record. -/
def State.labelImage (s : State) : List Byte :=
  let d := s.decoder
  let record : List Byte := match d.current with
    | some r =>
      le16 r.code ++ [byteOf r.day, byteOf r.month, byteOf r.hour, byteOf r.minute,
        byteOf r.status.code, byteOf r.category] ++ le16 r.duration
    | none => zeros 10
  padTo 64 (le16 d.code ++ [d.flags, byteOf d.miss] ++ le16 d.errors ++ record)

/-! ### Entries (8.1) -/

/-- 8.1: the part-owned fields, bytes 12 to 31. -/
def Owned.image (o : Owned) : List Byte :=
  [byteOf (o.state.code + 16 * o.invalid.code), o.outcome.code]
    ++ optWord (o.next.map (·.day)) ++ optWord (o.next.map (·.minute)) ++ optWord o.lastClosed
    ++ le16 o.outcome.date.toNat ++ le16 o.outcome.actual.toNat ++ le16 o.outcome.minutes.toNat
    ++ le16 o.outcome.late.toNat
    ++ [o.outcome.flags, byteOf (o.outcome.counter.toNat / 65536)]
    ++ le16 (o.outcome.counter.toNat % 65536)

/-- 8.1: the retained run record. -/
def RunCopy.image (r : RunCopy) : List Byte :=
  let counter := (counter24 r.counterAt).toNat
  let start := match r.labelStart with
    | some t => signed32 t
    | none => le32 0x80000000
  le32 r.anchorUptime ++ signed32 r.anchorT ++ start ++ le32 r.seconds ++ le16 r.duration
    ++ optWord r.actual ++ le16 r.late
    ++ [byteOf r.preset, byteOf (r.speed.code + 4 * r.changes + 16 * r.segments),
      byteOf (r.miss.code + 16 * bit r.powerGap + 32 * bit r.labelMode + 64 * bit r.matched
        + 128 * bit r.labelControl),
      byteOf (bit r.autoSpeed)]
    ++ le16 (counter % 65536) ++ [byteOf (counter / 65536), 0, 0, 0]

/-! ### Reading back at a warm or line start (R142) -/

/-- R142: a state code; above 10 it is taken as UNUSED. -/
def EntryState.ofCode : Nat → EntryState
  | 1 => .disabled | 2 => .invalid | 3 => .armed | 4 => .preroll | 5 => .pending
  | 6 => .waitingLabel | 7 => .recording | 8 => .labelPaused | 9 => .interrupted | 10 => .done
  | _ => .unused

/-- The invalid reason a code names. The spec gives codes 6 and 7 no meaning; the model reads them as none
(log 87). -/
def InvalidReason.ofCode : Nat → InvalidReason
  | 1 => .badTime | 2 => .badDate | 3 => .emptyPreset | 4 => .past | 5 => .zeroLength | _ => .none

/-- The miss cause a code names. The spec gives codes 10 to 15 no meaning; the model reads them as none
(log 87). -/
def MissCause.ofCode : Nat → MissCause
  | 1 => .noTape | 2 => .writeProtect | 3 => .dew | 4 => .tapeFull | 5 => .busy | 6 => .fault
  | 7 => .power | 8 => .label | 9 => .clockStep | _ => .none

/-- 8.1: a word of an entry, 0xFFFF for none. -/
def State.optWordAt (s : State) (a : Nat) : Option Nat :=
  let w := s.wordNat a
  if w = 0xFFFF then none else some w

/-- R142: the next start as deck memory holds it, none if either word is none. -/
def State.nextAt (s : State) (a : Nat) : Option NextStart :=
  match s.optWordAt a, s.optWordAt (a + 2) with
  | some d, some m => some ⟨d, m⟩
  | _, _ => none

/-- R142: the part-owned fields of an entry as deck memory holds them. -/
def State.ownedAt (s : State) (n : Fin 16) : Owned :=
  let a := Config.entryBase n.val
  { state := EntryState.ofCode (s.byteNat (a + 12) % 16)
    invalid := InvalidReason.ofCode (s.byteNat (a + 12) / 16 % 8)
    next := s.nextAt (a + 14)
    lastClosed := s.optWordAt (a + 18)
    outcome :=
      { code := s.byte (a + 13), date := BitVec.ofNat 16 (s.wordNat (a + 20))
        actual := BitVec.ofNat 16 (s.wordNat (a + 22)), minutes := BitVec.ofNat 16 (s.wordNat (a + 24))
        late := BitVec.ofNat 16 (s.wordNat (a + 26)), flags := s.byte (a + 28)
        counter := BitVec.ofNat 24 (65536 * s.byteNat (a + 29) + s.wordNat (a + 30)) } }

/-- 8.1: a counter of 24 bits, 0x800000 for none. -/
def counterOf24 (x : BitVec 24) : Option Int := if x = 0x800000 then none else some x.toInt

/-- R142: the run copy of an entry that was running, from its retained run record; what the record does
not keep is as at a mains failure (R161, log 37). A speed code 3 reads as EXTENDED (log 70). -/
def State.runAt (s : State) (n : Fin 16) (c : ProgCfg) (next : Option NextStart) : RunCopy :=
  let a := Config.runRecordBase n.val
  let b23 := s.byteNat (a + 23)
  let b24 := s.byte (a + 24)
  { cfg := c, occDay := (next.map (·.day)).getD 0xFFFF, duration := s.wordNat (a + 16)
    preset := s.byteNat (a + 22), labelControl := b24.getLsbD 7
    autoSpeed := (s.byte (a + 25)).getLsbD 0, anchorUptime := s.longNat a, anchorT := s.longInt (a + 4)
    role := .waiter, labelMode := b24.getLsbD 5, matched := b24.getLsbD 6
    labelStart := if s.longNat (a + 8) = 0x80000000 then none else some (s.longInt (a + 8))
    lastLabel := none, lostSeen := false, endTimer := none, miss := MissCause.ofCode (b24.toNat % 16)
    newStart := true, speed := Speed.ofCode (b23 % 4), holdOff := none, endCause := .none
    powerGap := b24.getLsbD 4, seconds := s.longNat (a + 12), segments := b23 / 16
    actual := s.optWordAt (a + 18)
    counterAt := counterOf24 (BitVec.ofNat 24 (65536 * s.byteNat (a + 28) + s.wordNat (a + 26)))
    late := s.wordNat (a + 20), changes := b23 / 4 % 4, startTaken := false, windowTaken := false }

/-- R142: an entry as deck memory holds it. An entry in a running state is taken as INTERRUPTED, with its run copy.
An invalid reason that a host write has put beside a running state is kept while the entry runs (DESIGN CHOICE,
log 85), and the validated copy, lost in RETAIN (R141), is the whole configuration as deck memory holds it at the start,
for a running entry too (DESIGN CHOICE, log 86). -/
def State.entryAt (s : State) (n : Fin 16) : Entry :=
  let o := s.ownedAt n
  let c := s.progCfg n
  if o.state.running then
    { copy := c, owned := { o with state := .interrupted }, run := some (s.runAt n c o.next) }
  else { copy := c, owned := o, run := none }

/-- R142: the scheduler at a warm or line start, before what R162 gives. -/
def State.readScheduler (s : State) : State :=
  { s with scheduler :=
    { entries := Vector.ofFn s.entryAt, due := [], clockHanded := s.clock.state } }

end Sys2Proof.Machine
end

