-- ==== Sys2Proof/Machine/Packets.lean ====
section
/-! DEFINITION. The line-data decoder's events (chapter 6): packets, the joining and acceptance of label
records, the miss window, its block reset; and what the scheduler does with what it is handed. -/
namespace Sys2Proof.Machine

/-! ### Handing to the scheduler (R106 to R108) -/

/-- R106, R151: a label record is handed. -/
def State.recordHanded (s : State) (l : LabelRecord) (lost : Bool) : State :=
  s.onLabelHolder fun n r => s.labelActs n r l lost

/-- R107, R153: LOST is handed set, with the current label record, if any. -/
def State.lostHanded (s : State) (l : Option LabelRecord) : State := s.onLabelHolder fun n r => s.lostActs n r l

/-- R108, R153: a clearing is handed, to the holder alone (R151). -/
def State.clearingHanded (s : State) : State :=
  match s.holder with
  | none => s
  | some n =>
    match s.run n with
    | none => s
    | some r => s.clearingActs n r

/-! ### Packets (R99 to R106) -/

/-- R100: a discarded packet is counted. -/
def State.packetError (s : State) : State := { s with decoder := s.decoder.countError }

/-- R101: the pending record is discarded. -/
def State.dropPending (s : State) : State := { s with decoder.pendingRec := none }

/-- R109: both records are rewritten. -/
def State.touchLabel (s : State) : State := (s.touch 3).touch 8

/-- R103: a station code that is new replaces the context's and is reported to the tuner. -/
def State.stationCode (s : State) (code : Nat) : State :=
  if code = 0 ∨ code = s.decoder.code then s
  else ({ s with decoder.code := code }.touchLabel).reportCode code

/-- R104: a TIME packet. -/
def State.timeBroadcast (s : State) (payload : BitVec 40) : State :=
  match timeFields payload with
  | some (universal, offset) => s.timeCandidate universal offset
  | none => s.packetError

/-- R106: what the published context holds of the decoder, but for the error count. -/
def Decoder.context (d : Decoder) : Option LabelRecord × Nat × Nat × Bool :=
  (d.current, d.code, d.miss, d.lost)

/-- R106: a complete record is accepted. -/
def State.acceptLabel (s : State) (r : LabelRecord) : State :=
  let reported := r.code ≠ 0 ∧ r.code ≠ s.decoder.code
  let before := s.decoder.context
  let s := { s with decoder := s.decoder.accept r s.timeBase }
  let s := if s.decoder.context = before then s else s.touchLabel
  let s := s.note (.labelRecord r s.decoder.lost)
  if reported then s.reportCode r.code else s

/-- R102, R105: the two payloads of a label are joined, checked and compared. -/
def State.completeLabel (s : State) (first last : BitVec 40) : State :=
  match joinLabel first last with
  | none => s.packetError
  | some r => if labelAccepted s.tuner.stationCode r then s.acceptLabel r else s

/-- R102: a LABEL LAST with a record pending. -/
def State.labelLast (s : State) (p : Packet) (pending : PendingRecord) : State :=
  let s := s.dropPending
  if p.sequence = nextSequence pending.sequence then s.completeLabel pending.payload p.payload else s

/-- R101: a received packet. -/
def State.receive (s : State) (p : Packet) : State :=
  match p.kind, p.fragment, s.decoder.pendingRec with
  | 3, 3, some r => s.labelLast p r
  | 1, 0, _ => s.dropPending.stationCode (payloadField p.payload 24 16)
  | 2, 0, _ => s.dropPending.timeBroadcast p.payload
  | 3, 1, _ => { s with decoder.pendingRec := some ⟨p.sequence, p.payload⟩ }
  | _, _, _ => s.dropPending

/-- R99: packets are read. -/
def State.readsPackets (s : State) : Bool := s.decoder.powered && s.tuner.signal == .sync

/-- R99, R100: a packet arrives. -/
def State.packet (s : State) (p : Packet) : State :=
  if s.readsPackets then
    if p.passes then s.receive p else s.packetError
  else s

/-! ### Miss window and block reset (R107, R110) -/

/-- R107: the miss window runs out. An expiry that comes after the window was started afresh does not occur. -/
def State.missOut (s : State) : State :=
  if s.ranOut s.decoder.window then
    let lost := s.decoder.lost
    let s := { s with decoder := s.decoder.missed s.timeBase }.touchLabel
    if s.decoder.lost && !lost then s.note (.labelLost s.decoder.current) else s
  else s

/-- R110: BLOCK_RESET of LINE_DATA. -/
def State.resetLineData (s : State) : State :=
  let s := { s.clearLabel with decoder.errors := 0 }
  s.emptyVotes

end Sys2Proof.Machine
end

