-- ==== Sys2Proof/Machine/Tape.lean ====
section
/-! DEFINITION. The events of the tape and its motors, with what each block does in them (chapters 2 to 4):
control pulses, tachometer and rotation pulses, drum revolutions, reference periods. -/
namespace Sys2Proof.Machine

/-! ### The counter's events (R46 to R49, R52, R66) -/

/-- R52, R66: the counter source has left READ, which ends a run of the mark detector and voids the open
revolutions. -/
def State.leaveRead (s : State) (before : CounterSource) : State :=
  if before = .read ∧ s.position.source ≠ .read then
    { s with remaining := s.remaining.halt }.endMarkRun
  else s

/-- R47: the capstan pulls tape on a path toward PLAYING, CUE or REVIEW. -/
def CapTarget.countsBlank : CapTarget → Bool
  | .play => true
  | .search _ => true
  | _ => false

/-- R47: the modes in which tape under the capstan is counted from the tachometer. -/
def Mode.countsBlank : Mode → Bool
  | .playing => true | .cue => true | .review => true | _ => false

/-- R47: the tachometer pulses are counted. -/
def State.countsBlank (s : State) : Bool :=
  s.transport.mode.countsBlank || s.servo.capTarget.countsBlank

/-- R39, R47: the speed factor in force, 1 while none is. -/
def State.factorOr1 (s : State) : Nat := s.factor.getD 1

/-- R46, R50, R55, R56: a pulse that the head writes at `pos`. The first pulse of a mark that is entered
rewrites the map, and so does an entry that is erased. -/
def State.writtenPulse (s : State) (pos : Int) : State :=
  let p := (s.position.writePulse pos).erase pos
  let changed := decide (p.map ≠ s.position.map) || (p.segment.isSome && s.position.writer.fresh)
  let s := { s with position := p }
  if changed then s.touchMap else s

/-- R52: a pulse that the head reads at `pos`. -/
def State.readPulse (s : State) (d : Dir) (altered : Bool) (pos : Int) : State :=
  let (p, seen) := s.position.detectPulse d altered pos
  { s with position := p }.markSeen seen

/-- R46: the pulse is counted, then written or read. -/
def State.countedPulse (s : State) (d : Dir) (altered : Bool) : State :=
  let before := s.position.counter
  let s := { s with position := s.position.countPulse d }
  let pos := pulsePosition before s.position.counter
  if s.transport.mode = .recording then s.writtenPulse pos else s.readPulse d altered pos

/-- R36 to R39, R46, R60, R61, R65: a control pulse. The remaining calculator counts it first: where it ends a leg of
a LOCATE, brings the arrival or the reversal of one, or ends the last mark of a MARKS target, and so stops the motors
or turns them (R60 to R62), the pulse timing then restarts at 0 (R66, log 61). -/
def State.controlPulse (s : State) (d : Dir) (altered : Bool) (us : Nat) : State :=
  let s := { s with remaining := s.remaining.controlPulse d us }.countedPulse d altered
  let playing := decide (s.transport.mode = .playing)
  let s := { s with servo := s.servo.controlPulse us playing s.timeBase }
  s.locateTest

/-- R32, R47, R61: a capstan tachometer pulse. -/
def State.tachPulse (s : State) (d : Dir) (periodUs : Nat) : State :=
  let s := { s with servo := s.servo.tachPulse d periodUs s.timeBase }
  if s.countsBlank then
    let before := s.position
    let s := { s with position := s.position.tachPulse d s.factorOr1 }
    let s := s.leaveRead before.source
    if s.position.counter = before.counter then s else s.locateTest
  else s

/-- R48: the direction of the wind: that of the wind modes, whose reels may be braking, or that in which a
path drives the reels. -/
def State.windDirection (s : State) : Option Dir :=
  match s.transport.mode, s.servo.reel with
  | .windFwd, _ => some .forward
  | .windRev, _ => some .reverse
  | _, .forward => some .forward
  | _, .reverse => some .reverse
  | _, .off => none

/-- R48: a take-up revolution for the position unit. The factor is that in force by R39, the record speed's where a
RECORD taken in the wind still brakes it (log 65). -/
def State.takeUpRevolution (s : State) : State :=
  let before := s.position
  let p := before.takeUpRevolution s.windDirection s.remaining.ku s.factorOr1
  let s := { s with position := p }.leaveRead before.source
  if s.position.counter = before.counter then s else s.locateTest

/-- R65, R70, R73: a rotation pulse for the remaining calculator. -/
def State.measureReel (s : State) (r : Reel) (us : Nat) : State :=
  let read := decide (s.position.source = .read)
  let (m, result) := s.remaining.reelPulse r us s.factor read
  let s := { s with remaining := m }
  match result with
  | .nothing => s
  | .recorded => s.touch 1
  | .value => (s.touch 1).note .figure

/-- R19: a rotation pulse of the receiving reel restarts the stall timer. -/
def State.restartStall (s : State) (r : Reel) : State :=
  if s.transport.stall.isSome ∧ s.receivingReel = some r then
    { s with transport.stall := some (s.after Config.stallLimit) }
  else s

/-- R48: the position unit's part in a rotation pulse, that of the take-up reel alone. -/
def State.positionReel (s : State) (r : Reel) : State :=
  match r with
  | .supply => s
  | .takeUp => s.takeUpRevolution

/-- R19, R41, R48, R65: a rotation pulse of a reel. The position unit reckons first, so that a revolution over
blank tape records no measurement (R67). -/
def State.reelRotation (s : State) (r : Reel) (us : Nat) : State :=
  let s := s.restartStall r
  ({ s with servo := s.servo.reelPulse r }.positionReel r).measureReel r us

/-! ### Drum and capstan (R30, R32, R33, R38, R43) -/

/-- R30: a drum revolution. -/
def State.drumRevolution (s : State) (periodUs : Nat) (phaseUs : Int) : State :=
  { s with servo := s.servo.drumRevolution periodUs phaseUs s.timeBase }

/-- R32: the capstan is held. -/
def State.capstanHeld (s : State) : State := { s with servo := s.servo.held }

/-- R33: a reference period of the capstan ends. -/
def State.referencePeriod (s : State) (inWindow : Bool) : State :=
  { s with servo := s.servo.referencePeriod inWindow s.timeBase }

/-- R38: control pulses are absent. -/
def State.pulsesAbsent (s : State) : State := { s with servo := s.servo.pulsesAbsent }

/-- R43: a trial of the auto search ends. -/
def State.trialEnd (s : State) (envelope : Nat) : State :=
  { s with servo := s.servo.trialEnd envelope }

/-! ### Sensors (R16, R17, R147) -/

/-- R16, R147: the record tab changes. In EMPTY the report is kept and comes into force with the cassette
(log 46). -/
def State.tabChange (s : State) (present : Bool) : State :=
  { s with sensors.tabPresent := present }.poke

/-- R17, R147: dew clears. -/
def State.dewClears (s : State) : State := { s with sensors.dew := false }.poke

/-- R18, R147: the end sensor becomes inactive. -/
def State.endInactive (s : State) : State := { s with sensors.endActive := false }.poke

/-- R2: the start sensor becomes inactive. -/
def State.startInactive (s : State) : State := { s with sensors.startActive := false }

end Sys2Proof.Machine
end

