-- ==== Sys2Proof/Machine/Event.lean ====
section
/-! DEFINITION. The shape of an event: the end of the record writes before it, its body, the signals between
blocks until none is left, the needs and timers that follow the state, the publication in deck memory, the
landing of its record writes (R179, R180, 95_what_each_step_holds, log 5, 19 and 21). -/
namespace Sys2Proof.Machine

/-! ### Host accesses to deck memory (R178, R179, R183) -/

/-- R183: the address of a slot's state byte. -/
def isSlotState (a : Nat) : Bool := 0x0100 ≤ a && a < 0x0300 && (a - 0x0100) % 32 == 0

/-- R178, R183: a host write of one byte; a slot's state byte takes only EMPTY and POSTED. -/
def State.hostByte (s : State) (a : Nat) (b : Byte) : State :=
  if isSlotState a ∧ 1 < b.toNat then s
  else { s with mem := Memory.writeBytes s.losses s.mem a [b] }

/-- The low byte of a word, and the high one. -/
def lowByte (w : Word) : Byte := w.setWidth 8
def highByte (w : Word) : Byte := (w >>> 8).setWidth 8

/-- R178: a host write of the word at `a`. -/
def State.hostWord (s : State) (a : Nat) (w : Word) : State :=
  (s.hostByte a (lowByte w)).hostByte (a + 1) (highByte w)

/-- R178: the word at `a` as it stands in deck memory. -/
def State.memWord (s : State) (a : Nat) : Word :=
  Memory.read s.losses s.mem (a + 1) ++ Memory.read s.losses s.mem a

/-- R197: a parallel access is served. -/
def State.serve (s : State) (x : Access) : State :=
  match x with
  | .read a => { s with port.dataOut := some (s.memWord a) }
  | .writeWord a w => s.hostWord a w
  | .writeByte a high b => s.hostByte (if high then a + 1 else a) b

/-- R197: the parallel access held by WAIT is served. -/
def State.serveHeld (s : State) : State :=
  match s.port.held with
  | none => s
  | some x => { s with port.held := none }.serve x

/-- R198: the pending serial access is served. -/
def State.serveSerial (s : State) : State :=
  match s.port.serial with
  | none => s
  | some x =>
    if x.served.isSome then s
    else
      match x.write with
      | none => { s with port.serial := some { x with served := some (s.memWord x.addr) } }
      | some w => { s with port.serial := some { x with served := some 0 } }.hostWord x.addr w

/-- R179: the record writes of the last event have ended. -/
def State.endWrites (s : State) : State := { s with interlock := [], scratch := Scratch.clear }

/-- R179: the record writes of the last event have ended, and the accesses they held are served. -/
def State.afterWrites (s : State) : State := s.endWrites.serveHeld.serveSerial

/-- R179: a record being written covers a byte of the word at `a`. -/
def State.covered (s : State) (a : Nat) : Bool :=
  s.interlock.any fun span => span.1 < a + 2 && a < span.1 + span.2

/-! ### Signals between blocks (log 21) -/

/-- The block a signal goes to acts on it. -/
def State.handle (s : State) : Note → State
  | .tick => s.tickHanded
  | .step old new => s.stepHanded old new
  | .notice => s.noticeHanded
  | .seekTest => s.seekTest
  | .labelRecord r lost => s.recordHanded r lost
  | .labelLost l => s.lostHanded l
  | .labelCleared => s.clearingHanded
  | .figure => s.figureHanded
  | .poke => s.pokeHolder
  | .clockSet => s.advanceHolder
  | .prerollTest => s.prerollTest
  | .prerollOnTime => s.prerollOnTime
  | .manualLeft => s.chooseHolder
  | .start e => s.startEntry e
  | .windowEnd e => s.windowEnd e
  | .emptyPreset e => s.emptyPresetAnswer e
  | .takeDone e => s.advance e
  | .recordEntered e new => s.recordEntered e new
  | .pauseEntered e => s.pauseEntered e
  | .tapeEnd e => s.tapeOut e
  | .atEnd e => s.tapeOut e
  | .hostStop e => s.hostStopped e
  | .servoFault e => s.servoFaulted e
  | .jam e => s.jammed e
  | .dew e => s.interruptTape e .dew

/-- The next thing inside the event: a signal, or else a step of the path that needs no further event. -/
def State.inner (s : State) : Option State :=
  match s.scratch.notes with
  | n :: ns => some ({ s with scratch.notes := ns }.handle n)
  | [] => s.pathStep

/-- Signals and path steps until none is left. -/
def State.pump : Nat → State → State
  | 0, s => s
  | k + 1, s =>
    match s.inner with
    | none => s
    | some t => t.pump k

/-! ### What follows the state -/

/-- R167: the transport's need. A path that is no order waits for its supply too (log 14), the final PLAY leg of a
LOCATE that has arrived at once in LOADED among them, though its request is no longer in flight (DESIGN CHOICE,
log 96). -/
def State.transportNeeds (s : State) : Bool :=
  !(s.transport.mode == .empty || s.transport.mode == .loaded || s.transport.mode == .faultHold)
    || s.transport.camMove.isSome || s.requests.transportLane.isSome
    || (match s.transport.path with
      | some p => !p.order
      | none => false)

/-- R23: the idle timer runs in STOPPED at rest with neither owner set (log 30). Coming to rest there since
`old` starts it afresh. -/
def State.syncIdle (old s : State) : State :=
  if s.transport.mode = .stopped ∧ s.transport.owner = .none ∧ s.transport.control.isNone then
    if s.restsStopped ∧ (s.transport.idle.isNone ∨ !old.restsStopped) then
      { s with transport.idle := some (s.after Config.idleLimit) }
    else s
  else { s with transport.idle := none }

/-- R66: the speed factor in force has changed since the event began. -/
def State.syncFactor (old s : State) : State :=
  if s.factor = old.factor then s else { s with remaining := s.remaining.void }

/-- R31, R43, R44: the drum's reference and the auto search follow the transport. The drum's runs of revolutions in and
out of phase (R30), counted against the old reference, go on over a change of it (DESIGN CHOICE, log 98). -/
def State.syncServo (s : State) : State :=
  { s with servo :=
    { s.servo.searchSync (s.transport.mode = .playing) with drumRef := s.drumReference } }

/-- R167, R168: the needs and the power state follow the transport, the tuner's power its owner (R85). -/
def State.syncNeeds (s : State) : State :=
  { s with power.transportNeed := s.transportNeeds }.syncPower.syncTunerPower

/-- The timers, references and needs that follow the state. -/
def State.sync (old s : State) : State := (State.syncIdle old (syncFactor old s).syncServo).syncNeeds

/-- How many signals and path steps an event may take (log 21). -/
def fuel : Nat := 1000

/-- Everything the event does among the blocks. -/
def State.settleEvent (old s : State) : State :=
  let s := State.sync old (s.pump fuel)
  State.sync old (s.pump fuel)

/-! ### Publication (R180, log 19) -/

/-- R180: group `g` is rewritten when its figures have changed or its owner rewrites it. `fresh`: a start,
where every group is. The CLOCK group asks for its cause only where R124 says so. -/
def State.publishGroup (old : State) (fresh : Bool) (s : State) (g : Fin 7) : State :=
  if fresh ∨ g.val ∈ s.scratch.touched ∨ s.group g.val ≠ old.group g.val then
    let s := s.writeRecord (Config.groupSpan g.val).1 (s.group g.val)
    if g = 4 ∧ !s.scratch.askClock ∧ !fresh then s else s.askStatus g
  else s

/-- R53: the tape map. -/
def State.publishMap (old : State) (fresh : Bool) (s : State) : State :=
  if fresh ∨ 7 ∈ s.scratch.touched ∨ s.tapeMapImage ≠ old.tapeMapImage then
    s.writeRecord Config.tapeMapBase s.tapeMapImage
  else s

/-- R109: the label context record. -/
def State.publishLabel (old : State) (fresh : Bool) (s : State) : State :=
  if fresh ∨ 8 ∈ s.scratch.touched ∨ s.labelImage ≠ old.labelImage then
    s.writeRecord Config.labelContextBase s.labelImage
  else s

/-- R127, R129: the part-owned fields of an entry, when they have changed; at a start, from what deck
memory holds. -/
def State.publishEntry (old : State) (fresh : Bool) (s : State) (n : Fin 16) : State :=
  let a := Config.entryBase n.val + 12
  let image := (s.entry n).owned.image
  let before := if fresh then s.bytes a 20 else (old.entry n).owned.image
  if image = before then s else s.writeRecord a image

/-- R131: the retained run record of an entry that runs, when it has changed. -/
def State.publishRun (old : State) (fresh : Bool) (s : State) (n : Fin 16) : State :=
  let a := Config.runRecordBase n.val
  match s.run n with
  | none => s
  | some r =>
    let before := if fresh then some (s.bytes a 32) else (old.run n).map (·.image)
    if some r.image = before then s else s.writeRecord a r.image

/-- The status groups. -/
def groupNumbers : List (Fin 7) := List.finRange 7

/-- R180: everything the event has changed is written as records. -/
def State.publish (old : State) (fresh : Bool) (s : State) : State :=
  let s := entryNumbers.foldl (State.publishEntry old fresh) s
  let s := entryNumbers.foldl (State.publishRun old fresh) s
  let s := State.publishLabel old fresh (State.publishMap old fresh s)
  groupNumbers.foldl (State.publishGroup old fresh) s

/-- The spans of record writes. -/
def spans (ws : List (Nat × List Byte)) : List (Nat × Nat) := ws.map fun w => (w.1, w.2.length)

/-- R179: the record writes of the event land, and their spans are under the interlock until the next. -/
def State.land (old s : State) : State :=
  { s with
      mem := Memory.apply old.losses old.mem s.scratch.writes, losses := old.losses
      interlock := spans s.scratch.writes, scratch := Scratch.clear, pending := old.pending }

/-! ### Events -/

/-- The rest of an event that began in `old`, from what its body left: the blocks follow, `last` is done, and
deck memory is written. -/
def State.finishWith (last : State → State → State) (old s : State) : State :=
  State.land old (State.publish old false (last old (State.settleEvent old s)))

/-- The rest of an event with nothing done at its very end. -/
def State.finish (old s : State) : State := State.finishWith (fun _ t => t) old s

/-- An event with what is done at its very end, from the state before it and the one after. -/
def State.eventWith (s : State) (body : State → State) (last : State → State → State) : State :=
  if s.on then State.finishWith last s.afterWrites (body s.afterWrites) else s

/-- An event: the part's answer to a command, taken only while the part is on (R174, R175). -/
def State.event (s : State) (body : State → State) : State := s.eventWith body fun _ t => t

/-- A change that no record shows and no block follows: a register or a line. -/
def State.light (s : State) (f : State → State) : State := if s.on then f s else s

/-- A sensor's report: an event while the part is on; while it is off only the sensor changes. -/
def State.sensed (s : State) (set body : State → State) : State :=
  if s.on then s.event body else set s

end Sys2Proof.Machine
end

