-- ==== Sys2Proof/Machine/Ports.lean ====
section
/-! DEFINITION. The port interface, the registers and the claim unit (chapters 11 and 12): parallel accesses,
serial frames, reads and writes of the five registers, TAKE and GIVE, the reading of the settings. -/
namespace Sys2Proof.Machine

/-! ### Settings and claims (R181, R191, R192) -/

/-- R72, R73: the remaining calculator reads the cassette length. -/
def State.readLength (s : State) (m : Nat) : State :=
  let (r, changed) := s.remaining.setLength m
  let s := { s with remaining := r }
  if changed then (s.touch 1).note .figure else s

/-- R181, R192: every reader takes its settings. -/
def State.readSettings (s : State) : State :=
  let x := s.settings
  let s := { s with
    servo.defaultSpeed := x.speed, lamps := x.lamps, presenter.interval := x.interval }
  (s.clockSettings x true).readLength x.length

/-- R192: the part reads a section given back. -/
def State.readSection (s : State) (x : Section) : State :=
  match x with
  | .programs => s.validate
  | .presets => s.rereadSelection
  | .settings => s.readSettings

/-- R192: a GIVE; of a section whose host hold is clear it is ignored. -/
def State.give (s : State) (x : Section) : State :=
  if s.claims.host.get x then
    s.event fun s => ({ s with claims.host := s.claims.host.put x false }).readSection x
  else s

/-- R191: a TAKE. -/
def State.take (s : State) (x : Section) : State :=
  if s.claims.engine.get x then s
  else { s with claims.host := s.claims.host.put x true }

/-- R196: the section bits of CLAIM. -/
def sectionOf (w : Word) : Option Section :=
  match w.toNat % 4 with
  | 1 => some .programs
  | 2 => some .presets
  | 3 => some .settings
  | _ => none

/-- R196: the action bits of CLAIM. -/
def actionOf (w : Word) : Nat := w.toNat / 16 % 4

/-- R191: a write of CLAIM. -/
def State.claimWrite (s : State) (w : Word) : State :=
  match sectionOf w, actionOf w with
  | some x, 1 => s.take x
  | some x, 2 => s.give x
  | _, _ => s

/-! ### The presenter's registers (R200) -/

/-- R200: a read of ATTENTION takes the most favoured presentable cause. -/
def State.attentionTake (s : State) : State :=
  match s.presenter.favoured with
  | none => s
  | some c =>
    { s with
        presenter.pending := s.presenter.pending.filter (· ≠ c)
        presenter.cl := BitVec.ofNat 4 c.kind.level }

/-- R200: a write of LEVEL. -/
def State.levelSet (s : State) (w : Word) : State := { s with presenter.cl := w.setWidth 4 }

/-- R200: the throttle timer started with the interval last read; 0 leaves it run out. -/
def State.startThrottle (s : State) : State :=
  let t :=
    if s.presenter.interval = 0 then none
    else some (s.after (Config.msCycles s.presenter.interval))
  { s with presenter.throttle := t }

/-- R200: a write of ATTENTION. -/
def State.attentionSet (s : State) (w : Word) : State := (s.levelSet w).startThrottle

/-- R196: a write of IDENT. -/
def State.identSet (s : State) (w : Word) : State :=
  if w = 0 then { s with port.selector := false }
  else if w = 1 then { s with port.selector := true }
  else s

/-- R202: the presenter after BLOCK_RESET. -/
def State.resetPresenter (s : State) : State :=
  { s with
      presenter.pending := [], presenter.cl := 15, presenter.throttle := none
      presenter.gates := Vector.replicate 7 .opened }

/-! ### Ports (R196 to R198) -/

/-- R196: the word a register reads as; POST, CLAIM and the numbers of 5 or above among them. -/
def State.registerWord (s : State) (reg : Nat) : Word :=
  match reg with
  | 0 => s.identWord
  | 1 => s.port.postEcho
  | 2 => s.claimWord
  | 3 => s.attentionWord
  | 4 => s.levelWord
  | _ => 0

/-- R200: what the read of a register changes. -/
def State.registerTaken (s : State) (reg : Nat) : State := if reg = 3 then s.attentionTake else s

/-- R198: the 40 bits that the part returns in a frame, most significant first: the last command, fifteen 0 bits and
the ready flag, the data. -/
def Reply.bits (r : Reply) : BitVec 40 :=
  r.lastCommand ++ (BitVec.ofNat 16 (bit r.ready)) ++ r.data

/-- R198: a complete frame: the part has returned the last command, the ready flag and the data. -/
def State.frame (s : State) (command : Byte) (ready : Bool) (data : Word) : State :=
  { s with
      port.reply := some ⟨s.port.lastCommand, ready, data⟩, port.lastCommand := command }

/-- R197, R198: a write of a register through the port latched; a serial frame is ignored while an access is
pending. -/
def State.throughPort (s : State) (write : State → State) : State :=
  if s.on then
    match s.port.mode with
    | .parallel => write s
    | .serial =>
      if s.port.serial.isSome then s.frame 4 false 0 else write (s.frame 4 true 0)
  else s

/-- R198: a REG_READ frame. -/
def State.serialRegRead (s : State) (reg : Nat) : State :=
  if s.port.serial.isSome then s.frame 3 false 0
  else (s.frame 3 true (s.registerWord reg)).registerTaken reg

/-- R196: a read of a register through the port latched. -/
def State.portRead (s : State) (reg : Nat) : State :=
  if s.on then
    match s.port.mode with
    | .parallel => { s with port.dataOut := some (s.registerWord reg) }.registerTaken reg
    | .serial => s.serialRegRead reg
  else s

/-- The part is on and its port is in the mode. -/
def State.portIs (s : State) (m : PortMode) : Bool := s.on && s.port.mode == m

/-- R179: an access that does not begin while record writes are under way comes after them (log 5). -/
def State.beginAccess (s : State) (during : Bool) : State := if during then s else s.afterWrites

/-- R197: a parallel access to the word at byte address `a`. Another one under WAIT is not possible, so it
has no effect (log 28). -/
def State.parallelAccess (s : State) (a : Nat) (during : Bool) (x : Access) : State :=
  if s.portIs .parallel then
    let s := s.beginAccess during
    if s.port.held.isSome then s
    else if s.covered a then { s with port.held := some x }
    else s.serve x
  else s

/-- The byte address of a parallel word address. -/
def wordAddress (addr : BitVec 13) : Nat := 2 * addr.toNat

/-- R198: the word a serial byte address names; bit 0 is ignored. -/
def serialAddress (addr : Word) : Nat := addr.toNat / 2 * 2

/-- R178, R198: a read of an address above deck memory: the word that comes back is a free value (log 9). -/
def State.readBeyond (s : State) : State :=
  { s.frame 1 true (Config.freeWord s.draws) with draws := s.draws + 1 }

/-- R198: a MEM_READ frame with no access pending. -/
def State.serialRead (s : State) (a : Nat) : State :=
  if Config.memBytes ≤ a then s.readBeyond
  else if s.covered a then { s with port.serial := some ⟨a, none, none⟩ }.frame 1 false 0
  else s.frame 1 true (s.memWord a)

/-- R198: a MEM_WRITE frame with no access pending. Above deck memory there is no byte to change (log 9). -/
def State.serialWrite (s : State) (a : Nat) (w : Word) : State :=
  if Config.memBytes ≤ a then s.frame 2 true 0
  else if s.covered a then { s with port.serial := some ⟨a, some w, none⟩ }.frame 2 false 0
  else (s.frame 2 true 0).hostWord a w

/-- R198: a STATUS frame. A served access becomes none. -/
def State.serialStatus (s : State) : State :=
  match s.port.serial with
  | none => s.frame 5 true 0
  | some x =>
    match x.served with
    | none => s.frame 5 false 0
    | some w => { s.frame 5 true w with port.serial := none }

/-- R198: a frame cut after its ready flag: a read of a register stays served, a read of memory that the
interlock holds stays pending (log 44). -/
def State.serialCut (s : State) (command : Byte) (addr : Word) (clocks : Nat) : State :=
  if s.port.serial.isSome then s
  else if command = 3 ∧ 24 ≤ clocks then s.registerTaken addr.toNat
  else if command = 1 ∧ 23 ≤ clocks ∧ serialAddress addr < Config.memBytes ∧ s.covered (serialAddress addr) then
    { s with port.serial := some ⟨serialAddress addr, none, none⟩ }
  else s

end Sys2Proof.Machine
end

