-- ==== Sys2Proof/Machine/Requests.lean ====
section
/-! DEFINITION. The request unit (R184 to R190): the POST, the passing on by kind, the immediate requests,
and the meanings of the rows that are requests. -/
namespace Sys2Proof.Machine

/-! ### The immediate requests (R42, R58, R188, R189) -/

/-- A signed value in a word. -/
def signed16 (x : Int) : List Byte := le16 (BitVec.ofInt 16 x).toNat

/-- R58: COUNTER_ZERO. -/
def State.counterZero (s : State) (n : Fin 16) (_r : Request) : State :=
  let c := s.position.counter
  let (p, removed) := s.position.zero
  ({ s with position := p }.touchMap).finishSlot n .done .none (signed32 c ++ le16 removed)

/-- R42: TRACK VALUE. -/
def State.trackValue (s : State) (n : Fin 16) (r : Request) : State :=
  let s := { s with servo := s.servo.trackValue (r.signed 1) }
  s.finishSlot n .done .none (le16 0 ++ signed16 s.servo.tracking)

/-- R42: TRACK AUTO. An offset is a result of "search started" alone, the one before the first trial (log 39). -/
def State.trackAuto (s : State) (n : Fin 16) (_r : Request) : State :=
  if s.transport.mode = .playing then
    let results := if s.servo.onControl then le16 1 ++ signed16 s.servo.tracking else le16 2
    { s with servo := s.servo.trackAuto }.finishSlot n .done .none results
  else s.finishSlot n .done .none (le16 3)

/-- R42: TRACK by its form. -/
def State.track (s : State) (n : Fin 16) (r : Request) : State :=
  match r.byte 0 with
  | 0 => s.trackValue n r
  | 1 => s.trackAuto n r
  | _ => s.finishSlot n .refused .badArgument []

/-- R188: the slot of a POWER finishes with the need and the power state at the end of the event. -/
def State.finishPower (old s : State) (n : Fin 16) : State :=
  let s := State.settleEvent old s
  s.finishSlot n .done .none (le16 (bit s.power.hostNeed) ++ le16 s.power.state.code)

/-- R171, R188: POWER ON. -/
def State.powerOn (s : State) (n : Fin 16) (_r : Request) : State :=
  State.finishPower s s.hostOn n

/-- R26, R171, R188: POWER OFF. -/
def State.powerOff (s : State) (n : Fin 16) (_r : Request) : State :=
  State.finishPower s { s with power.hostNeed := false }.transportOff n

/-- R188: POWER by its argument. -/
def State.powerRequest (s : State) (n : Fin 16) (r : Request) : State :=
  match r.byte 0 with
  | 0 => s.powerOff n r
  | 1 => s.powerOn n r
  | _ => s.finishSlot n .refused .badArgument []

/-- R189, 11.5: a member is in the set of a BLOCK_RESET: 0 TRANSPORT, 1 TUNER, 2 LINE_DATA, 3 SCHEDULER,
4 PRESENTER. -/
def Request.names (r : Request) (member : Nat) : Bool := r.byte 0 / 2 ^ member % 2 == 1

/-- R189: the first check that refuses a BLOCK_RESET. -/
def State.checkReset (s : State) (r : Request) : Option Reason :=
  if r.byte 0 % 32 = 0 then some .badArgument
  else if r.names 0 ∧ s.transport.control.isSome then some .timerActive
  else if r.names 0 ∧ s.transport.owner = .manual then some .recording
  else if r.names 1 ∧ s.tuner.owner = .record then some .recording
  else none

/-- A member's reset, if it is in the set. -/
def State.resetIf (s : State) (named : Bool) (f : State → State) : State := if named then f s else s

/-- R189, R190: BLOCK_RESET: the presenter first, then the other members, then the slot. -/
def State.blockReset (s : State) (n : Fin 16) (r : Request) : State :=
  match s.checkReset r with
  | some why => s.finishSlot n .refused why []
  | none =>
    let s := s.resetIf (r.names 4) State.resetPresenter
    let s := s.resetIf (r.names 3) State.resetScheduler
    let s := s.resetIf (r.names 0) State.resetTransport
    let s := s.resetIf (r.names 1) State.resetTuner
    let s := s.resetIf (r.names 2) State.resetLineData
    s.finishSlot n .done .none (le16 (r.byte 0 % 32))

/-! ### The POST (R184, R185) -/

/-- R185: a kind code that names no request. -/
def State.badKind (s : State) (n : Fin 16) (_r : Request) : State := s.finishSlot n .refused .badKind []

/-- R185: a taken request is passed on by its kind. -/
def State.dispatch (s : State) (n : Fin 16) (r : Request) : State :=
  match r.kind with
  | 1 => s.play n r
  | 2 => s.record n r
  | 3 => s.stop n r
  | 4 => s.pause n r
  | 5 => s.cue n r
  | 6 => s.review n r
  | 7 => s.wind n r
  | 8 => s.locate n r
  | 9 => s.eject n r
  | 10 => s.select n r
  | 11 => s.fine n r
  | 12 => s.scan n r
  | 13 => s.setClock n r
  | 14 => s.counterZero n r
  | 15 => s.track n r
  | 16 => s.powerRequest n r
  | 17 => s.blockReset n r
  | _ => s.badKind n r

/-- R184: the slot that a POST takes: numbered 0 to 15, POSTED, with no request in flight. -/
def State.postSlot (s : State) (w : Word) : Option (Fin 16) :=
  if h : w.toNat < 16 then
    let n : Fin 16 := ⟨w.toNat, h⟩
    if s.byteNat (Config.slotBase n.val) = 1 ∧ s.requests.slots[n].isNone then some n else none
  else none

/-- R184: the slot's kind and arguments are copied. -/
def State.copySlot (s : State) (n : Fin 16) (r : Request) : State :=
  { s with requests.slots := s.requests.slots.set n (some r) }

/-- R184: a POST takes its slot and `act` is done with the request, or it is ignored with PORT. -/
def State.takePost (s : State) (w : Word) (act : State → Fin 16 → Request → State) : State :=
  match s.postSlot w with
  | none => s.raise .port (min 255 w.toNat)
  | some n =>
    let r := s.slotRequest n
    act (s.copySlot n r) n r

/-- R185: a request taken by this POST and still in flight at the end of the event is written TAKEN. -/
def State.markTaken (w : Word) (old s : State) : State :=
  if h : w.toNat < 16 then
    let n : Fin 16 := ⟨w.toNat, h⟩
    match old.requests.slots[n], s.requests.slots[n] with
    | none, some r => s.writeRecord (Config.slotBase n.val) [2, byteOf r.kind]
    | _, _ => s
  else s

/-- R184, R196: a write of POST. -/
def State.postWith (s : State) (w : Word) (act : State → Fin 16 → Request → State) : State :=
  { s with port.postEcho := w }.eventWith (fun s => s.takePost w act) (State.markTaken w)

/-- R184: a write of POST, whatever its slot asks for. -/
def State.post (s : State) (w : Word) : State := s.postWith w State.dispatch

/-- R196: a write of a register. -/
def State.registerWrite (s : State) (reg : Nat) (w : Word) : State :=
  match reg with
  | 0 => s.identSet w
  | 1 => s.post w
  | 2 => s.claimWrite w
  | 3 => s.attentionSet w
  | 4 => s.levelSet w
  | _ => s

/-- R184: a row's request, posted: the row's meaning where the slot asks for it, else that of the kind the
slot holds (log 1). -/
def State.request (s : State) (post : Word) (row : Request → Bool)
    (act : State → Fin 16 → Request → State) : State :=
  s.throughPort fun s => s.postWith post fun s n r => if row r then act s n r else s.dispatch n r

/-! ### The rows -/

/-- What every meaning answers with: a next state. -/
abbrev Answer := Host.Outcome State Fault Refusal

/-- R8. -/
def execPlay (post : Word) (s : State) : Answer := .next (s.request post (·.kind == 1) State.play)
/-- R9. -/
def execRecord (post : Word) (s : State) : Answer := .next (s.request post (·.kind == 2) State.record)
/-- R10. -/
def execStop (post : Word) (s : State) : Answer := .next (s.request post (·.kind == 3) State.stop)
/-- R11. -/
def execPause (post : Word) (s : State) : Answer := .next (s.request post (·.kind == 4) State.pause)
/-- R12. -/
def execCue (post : Word) (s : State) : Answer := .next (s.request post (·.kind == 5) State.cue)
/-- R12. -/
def execReview (post : Word) (s : State) : Answer := .next (s.request post (·.kind == 6) State.review)
/-- R13. -/
def execWind (post : Word) (s : State) : Answer := .next (s.request post (·.kind == 7) State.wind)
/-- R14. -/
def execEject (post : Word) (s : State) : Answer := .next (s.request post (·.kind == 9) State.eject)
/-- R59. -/
def execLocate (post : Word) (s : State) : Answer := .next (s.request post (·.kind == 8) State.locate)
/-- R89. -/
def execSelect (post : Word) (s : State) : Answer := .next (s.request post (·.kind == 10) State.select)
/-- R91. -/
def execFine (post : Word) (s : State) : Answer := .next (s.request post (·.kind == 11) State.fine)
/-- R92. -/
def execScan (post : Word) (s : State) : Answer := .next (s.request post (·.kind == 12) State.scan)
/-- R116. -/
def execSetClock (post : Word) (s : State) : Answer :=
  .next (s.request post (·.kind == 13) State.setClock)
/-- R58. -/
def execCounterZero (post : Word) (s : State) : Answer :=
  .next (s.request post (·.kind == 14) State.counterZero)
/-- R42, VALUE. -/
def execTrackValue (post : Word) (s : State) : Answer :=
  .next (s.request post (fun r => r.kind == 15 && r.byte 0 == 0) State.trackValue)
/-- R42, AUTO. -/
def execTrackAuto (post : Word) (s : State) : Answer :=
  .next (s.request post (fun r => r.kind == 15 && r.byte 0 == 1) State.trackAuto)
/-- R171, ON. -/
def execPowerOn (post : Word) (s : State) : Answer :=
  .next (s.request post (fun r => r.kind == 16 && r.byte 0 == 1) State.powerOn)
/-- R171, OFF. -/
def execPowerOff (post : Word) (s : State) : Answer :=
  .next (s.request post (fun r => r.kind == 16 && r.byte 0 == 0) State.powerOff)
/-- R21, R190: a set that names TRANSPORT. -/
def execBlockResetTransport (post : Word) (s : State) : Answer :=
  .next (s.request post (fun r => r.kind == 17 && r.names 0) State.blockReset)
/-- R97, R190: a set that names TUNER. -/
def execBlockResetTuner (post : Word) (s : State) : Answer :=
  .next (s.request post (fun r => r.kind == 17 && r.names 1) State.blockReset)
/-- R110, R190: a set that names LINE_DATA. -/
def execBlockResetLineData (post : Word) (s : State) : Answer :=
  .next (s.request post (fun r => r.kind == 17 && r.names 2) State.blockReset)
/-- R160, R190: a set that names SCHEDULER. -/
def execBlockResetScheduler (post : Word) (s : State) : Answer :=
  .next (s.request post (fun r => r.kind == 17 && r.names 3) State.blockReset)
/-- R202, R190: a set that names PRESENTER. -/
def execBlockResetPresenter (post : Word) (s : State) : Answer :=
  .next (s.request post (fun r => r.kind == 17 && r.names 4) State.blockReset)
/-- R185: a kind code that names no request. -/
def execBadKind (post : Word) (s : State) : Answer :=
  .next (s.request post (fun r => r.kind == 0 || decide (17 < r.kind)) State.badKind)

end Sys2Proof.Machine
end

