-- ==== Sys2Proof/Machine/Mains.lean ====
section
/-! DEFINITION. Mains failure, RETAIN, the reset line and the three kinds of start (R173 to R177, R182, R195,
R202), with what each block's chapter gives for them. -/
namespace Sys2Proof.Machine

/-! ### The port and the presenter without power -/

/-- R196, R198: the port goes off: an access under way is dropped. -/
def State.portOff (s : State) : State := { s with port.held := none, port.serial := none }

/-- R202: on entry to RETAIN the presenter's pending set and gates are lost (log 41). -/
def State.presenterOff (s : State) : State :=
  { s with
      presenter.pending := [], presenter.throttle := none
      presenter.gates := Vector.replicate 7 .opened }

/-! ### Mains failure (R173) -/

/-- R194, R193: every host hold but PROGRAMS and the engine hold are revoked at RETAIN, with no reading. -/
def State.revokeAll (s : State) : State :=
  { s with claims := Claims.reset }

/-- R28, R195: requests in flight are abandoned without a slot write. -/
def State.abandonRequests (s : State) : State := { s with requests := Requests.reset }

/-- R123, R125: a running seek ends with the tuner's power. -/
def State.dropSeek (s : State) : State := { s with clock.seek := none, clock.window := [] }

/-- R98, R111: tuner and decoder lose power. The label context stays as it stands. -/
def State.tunerOff (s : State) : State :=
  { s with tuner := s.tuner.mainsFail, decoder := s.decoder.powerDown }

/-- R172, R173: the power controller's part. -/
def Power.fail (p : Power) : Power :=
  { p with
      state := .retain, transportNeed := false, schedulerNeed := false, hostNeed := false
      supply := .off, settle := none, mainsPresent := false }

/-- R174: the battery is below the retention threshold. -/
def Power.lose (p : Power) : Power := { p with retentionLost := true, lostLatch := true }

/-- R173: what each block does at the warning. -/
def State.failBlocks (s : State) : State :=
  ((s.interruptAll.safeStop).revokeAll.abandonRequests.tunerOff).dropSeek

/-- R173, R174: the power controller's and the battery monitor's part. -/
def State.failPower (s : State) (low : Bool) : State :=
  { s with power := if low then s.power.fail.lose else s.power.fail }

/-- R172, R173: the part enters RETAIN from `old`, with what `new` has to write, the POWER group among it; no
signal is followed, since the blocks lose power (log 41), the pre-roll test of a validation among them (R129, R144;
DESIGN CHOICE, log 95). -/
def State.enterRetain (old new : State) : State :=
  (State.land old (State.publish old false new.portOff)).presenterOff

/-- R173: the warning while the part is on. An access under way on the port is dropped (R197, R198). -/
def State.mainsFailOn (s : State) (low : Bool) : State :=
  State.enterRetain s.endWrites (s.endWrites.failBlocks.failPower low)

/-- R173, R175: the warning while the reset line holds the part: the safe stop is already in force. The held blocks take
no event (R175), so the holds and the lanes stand and no validation is made, though R173 has RETAIN entered in the same
way (DESIGN CHOICE, log 22). -/
def State.mainsFailHeld (s : State) (low : Bool) : State :=
  State.enterRetain s.endWrites (s.endWrites.failPower low)

/-- R173: the mains-fail warning; in RETAIN the mains is absent already. -/
def State.mainsFail (s : State) (low : Bool) : State :=
  if !s.power.mainsPresent then s
  else if s.on then s.mainsFailOn low
  else s.mainsFailHeld low

/-! ### Starts (R175, R176) -/

/-- R175: the kind of the start. -/
def Power.kind (p : Power) : StartKind :=
  if p.retentionLost then .cold else if p.lineSeen then .line else .warm

/-- R176: the wake reason after the start event. -/
def StartKind.wake : StartKind → WakeReason
  | .warm => .mainsReturn
  | _ => .none

/-- R176: the power controller's values. -/
def Power.begin (p : Power) (k : StartKind) : Power :=
  { state := .quiet, transportNeed := false, schedulerNeed := false, hostNeed := false, supply := .off
    settle := none, wake := k.wake, mainsPresent := true, retentionLost := false
    lostLatch := (match k with
      | .cold => true
      | .warm => false
      | .line => p.lostLatch)
    lineSeen := false, lineAsserted := false, startKind := k }

/-- R196: the mode the straps latch. -/
def portModeOf (strap0 strap1 : Bool) : PortMode := if strap0 && !strap1 then .serial else .parallel

/-- R202: the port at a start. -/
def Port.start (m : PortMode) : Port := { Port.reset with mode := m }

/-- R202: the presenter at a start, its settings not yet read. -/
def Presenter.start (k : StartKind) : Presenter :=
  { pending := [⟨.power, k.code⟩], cl := 15, throttle := none, interval := 20
    gates := Vector.replicate 7 .opened }

/-- A record write of `n` bytes 0. -/
def State.clearRecord (n : Nat) (s : State) (a : Nat) : State := s.writeRecord a (zeros n)

/-- R142, R179: an entry written whole, kind UNUSED. Its two bytes free to the host, 10 and 11, are written 0 with
it, though R127 has the part write neither (log 88). -/
def State.coldEntry (s : State) (n : Fin 16) : State :=
  s.writeRecord (Config.entryBase n.val) (zeros 12 ++ Owned.reset.image)

/-- R182: deck memory initialised at a cold start; tape map, label context and groups follow with every
start's publication. -/
def State.coldMemory (s : State) : State :=
  let s := s.writeRecord Config.settingsBase defaultSettings
  let s := (entryNumbers.map fun n => Config.slotBase n.val).foldl (State.clearRecord 28) s
  let s := entryNumbers.foldl State.coldEntry s
  let s := (presetNumbers.map Config.presetBase).foldl (State.clearRecord 16) s
  (entryNumbers.map fun n => Config.runRecordBase n.val).foldl (State.clearRecord 32) s

/-- R195: a slot at a warm or line start: state EMPTY and outcome none, the other bytes as held. -/
def State.emptySlot (s : State) (n : Fin 16) : State :=
  let a := Config.slotBase n.val
  s.writeRecord a ([0] ++ s.bytes (a + 1) 13 ++ [0] ++ s.bytes (a + 15) 13)

/-- R29, R64: a cassette is present: the position that sets the mode is other than EJECT. -/
def State.cassettePresent (s : State) : Bool := s.sensors.cam.base != .eject

/-- R45, R64, R75, R98, R111, R125, R195, R202: the blocks' values at a start, but for the scheduler's. -/
def State.startBlocks (s : State) (k : StartKind) (m : PortMode) : State :=
  let cold := k == .cold
  let s := { s with
    power := s.power.begin k, requests := Requests.reset, claims := Claims.reset
    port := Port.start m, presenter := Presenter.start k }
  let x := s.settings
  let kept := !cold && s.cassettePresent
  let s := { s with
    presenter.interval := x.interval, lamps := x.lamps
    servo := s.servo.start x.speed (!cold && s.sensors.cam != CamAt.at .eject)
    position := s.position.start kept, remaining := s.remaining.start kept x.length
    tuner := s.tuner.start cold, decoder := Decoder.start, clock := s.clock.start cold }
  (s.clockSettings x false).startTransport

/-- R142, R162: the scheduler at a start, and at a warm start the figure of R75. -/
def State.startScheduler (s : State) (k : StartKind) : State :=
  match k with
  | .cold => { s with scheduler := Scheduler.reset }.validate
  | .warm =>
    let s := s.readScheduler.resumeAll
    if s.cassettePresent then s.note .figure else s
  | .line => s.readScheduler.abandonStart

/-- R170, R176: a need raised in the start event leaves the wake reason as the table gives it. -/
def State.keepWake (s : State) (k : StartKind) : State := { s with power.wake := k.wake }

/-- R176, R180: the start event, from the state `old` that deck memory is kept from. -/
def State.startFrom (old s : State) (k : StartKind) (m : PortMode) : State :=
  let s := (s.startBlocks k m).startScheduler k
  let s := (State.settleEvent s s).keepWake k
  State.land old (State.publish old true s)

/-- R175, R182: a cold start: deck memory and the time base begin anew; the free storage holds whatever the
memory came back with (log 8). -/
def State.coldStart (s : State) (m : PortMode) : State :=
  let old := { s with mem := [], losses := s.losses + 1, timeBase := 0 }
  State.startFrom old old.coldMemory .cold m

/-- R175: a warm or line start. -/
def State.keptStart (s : State) (k : StartKind) (m : PortMode) : State :=
  State.startFrom s (entryNumbers.foldl State.emptySlot s) k m

/-- R175: a start, of the kind the power controller decides. -/
def State.start (s : State) (strap0 strap1 : Bool) : State :=
  let s := { s.endWrites with power.mainsPresent := true, power.lineAsserted := false }
  match s.power.kind with
  | .cold => s.coldStart (portModeOf strap0 strap1)
  | k => s.keptStart k (portModeOf strap0 strap1)

/-- R174, R175: the mains returns; with the reset line asserted the part stays held. -/
def State.mainsReturn (s : State) (strap0 strap1 : Bool) : State :=
  if s.power.mainsPresent then s
  else if s.power.lineAsserted then { s with power.mainsPresent := true }
  else s.start strap0 strap1

/-- R175, R28: the reset line is asserted: the safe stop, and the port is off, with an access under way
dropped (R197, R198). -/
def State.lineAssert (s : State) : State :=
  let s := if s.on then s.endWrites.safeStop.portOff else s
  { s with power.lineSeen := true, power.lineAsserted := true }

/-- R175: the reset line is released; the start waits for the mains. -/
def State.lineRelease (s : State) (strap0 strap1 : Bool) : State :=
  if s.power.lineAsserted then
    if s.power.mainsPresent then s.start strap0 strap1
    else { s with power.lineAsserted := false }
  else s

/-- R174: the battery monitor's report, acted on while the mains is absent. -/
def State.batteryReport (s : State) : State :=
  if s.power.state = .retain ∧ !s.power.mainsPresent then { s with power := s.power.lose } else s

end Sys2Proof.Machine
end

