-- ==== Sys2Proof/Machine/Commands.lean ====
section
/-! DEFINITION. The meanings of the rows that are not requests: registers, ports, sensors, motors, tuner, line
data, clock, scheduler, power, attention. An expiry acts only while its timer runs (log 3). -/
namespace Sys2Proof.Machine

/-! ### Registers (R191, R196, R200) -/

/-- R191: a write of CLAIM with action TAKE. -/
def execClaimTake (word : Word) (s : State) : Answer :=
  .next (s.throughPort (·.registerWrite 2 word))
/-- R192: a write of CLAIM with action GIVE. -/
def execClaimGive (word : Word) (s : State) : Answer :=
  .next (s.throughPort (·.registerWrite 2 word))
/-- R200: a read of ATTENTION. -/
def execAttentionRead (s : State) : Answer := .next (s.portRead 3)
/-- R200: a write of ATTENTION. -/
def execAttentionWrite (word : Word) (s : State) : Answer :=
  .next (s.throughPort (·.registerWrite 3 word))
/-- R200: a write of LEVEL. -/
def execLevelWrite (word : Word) (s : State) : Answer :=
  .next (s.throughPort (·.registerWrite 4 word))
/-- R196: a write of IDENT. -/
def execIdentWrite (word : Word) (s : State) : Answer :=
  .next (s.throughPort (·.registerWrite 0 word))
/-- R196: a write to a number of 5 or above, or a single-byte write, which only the parallel port has. -/
def execRegisterWriteOther (reg : BitVec 3) (single : Bool) (word : Word) (s : State) : Answer :=
  .next (if single then s else s.throughPort (·.registerWrite reg.toNat word))

/-! ### Parallel port (R179, R197) -/

/-- R197: a word read. -/
def execParallelMemoryRead (addr : BitVec 13) (during : Bool) (s : State) : Answer :=
  .next (s.parallelAccess (wordAddress addr) during (.read (wordAddress addr)))
/-- R197: a word write. -/
def execParallelWordWrite (addr : BitVec 13) (data : Word) (during : Bool) (s : State) : Answer :=
  .next (s.parallelAccess (wordAddress addr) during (.writeWord (wordAddress addr) data))
/-- R197: a byte write, to the high or the low byte of the word. -/
def execParallelByteWrite (addr : BitVec 13) (high : Bool) (data : Byte) (during : Bool) (s : State) :
    Answer :=
  .next (s.parallelAccess (wordAddress addr) during (.writeByte (wordAddress addr) high data))
/-- R179: the record writes end, and the access they hold is served. -/
def execHeldAccessServed (s : State) : Answer := .next (s.light State.afterWrites)

/-! ### Serial port (R198) -/

/-- R198: a serial access to memory; it is ignored while another one is pending. -/
def State.serialMemory (s : State) (command : Byte) (addr : Word) (during : Bool)
    (act : State → Nat → State) : State :=
  if s.portIs .serial then
    let s := s.beginAccess during
    if s.port.serial.isSome then s.frame command false 0 else act s (serialAddress addr)
  else s

/-- R198: MEM_READ. -/
def execMemRead (addr : Word) (during : Bool) (s : State) : Answer :=
  .next (s.serialMemory 1 addr during State.serialRead)
/-- R198: MEM_WRITE. -/
def execMemWrite (addr : Word) (data : Word) (during : Bool) (s : State) : Answer :=
  .next (s.serialMemory 2 addr during fun s a => s.serialWrite a data)
/-- R198: REG_READ. With PARALLEL latched it is the register read of R197, which has no other row
(DESIGN CHOICE, log 73). -/
def execRegRead (addr : Word) (s : State) : Answer := .next (s.portRead addr.toNat)
/-- R198: REG_WRITE. With PARALLEL latched it is the register write of R197 (DESIGN CHOICE, log 73). -/
def execRegWrite (addr : Word) (data : Word) (s : State) : Answer :=
  .next (s.throughPort (·.registerWrite addr.toNat data))
/-- R198: STATUS. -/
def execStatus (s : State) : Answer := .next (if s.portIs .serial then s.serialStatus else s)
/-- R198: any other command code. -/
def execSerialUnknownCommand (command : Byte) (s : State) : Answer :=
  .next (if s.portIs .serial then s.frame command false 0 else s)
/-- R198: a frame cut short. -/
def execSerialFrameCut (command : Byte) (addr : Word) (clocks : Nat) (during : Bool) (s : State) :
    Answer :=
  .next (if s.portIs .serial then (s.beginAccess during).serialCut command addr clocks else s)

/-! ### Mechanism (R2 to R4, R6, R15 to R19, R22, R23, R25) -/

/-- The cam as a report leaves it. -/
def State.camSensed (s : State) (pos : CamPos) : State := { s with sensors.cam := .at pos }

/-- R3. -/
def execCamMoveArrival (pos : CamPos) (s : State) : Answer :=
  .next (s.sensed (·.camSensed pos) (·.camReport pos))
/-- R4. -/
def execCamMoveLimit (s : State) : Answer := .next (s.event State.moveLimit)
/-- R6: both reels are still. -/
def execReelsStill (s : State) : Answer := .next (s.event State.motionStopped)
/-- R6: 2.0 s after the stop. -/
def execStopMotionTimeout (s : State) : Answer :=
  .next (s.event fun s => if s.transport.stopLimit.isSome then s.motionStopped else s)
/-- R15. -/
def execCassetteSwitch (closed : Bool) (s : State) : Answer :=
  .next (s.sensed (fun s => { s with sensors.switchClosed := closed }) (·.switchChange closed))
/-- R16. -/
def execRecordTabChange (present : Bool) (s : State) : Answer :=
  .next (s.sensed (fun s => { s with sensors.tabPresent := present }) (·.tabChange present))
/-- R17. -/
def execDewAppears (s : State) : Answer :=
  .next (s.sensed (fun s => { s with sensors.dew := true }) State.dewAppears)
/-- R147. -/
def execDewClears (s : State) : Answer :=
  .next (s.sensed (fun s => { s with sensors.dew := false }) State.dewClears)
/-- R18. -/
def execEndSensorActive (s : State) : Answer :=
  .next (s.sensed (fun s => { s with sensors.endActive := true }) State.endActive)
/-- R147. -/
def execEndSensorInactive (s : State) : Answer :=
  .next (s.sensed (fun s => { s with sensors.endActive := false }) State.endInactive)
/-- R18. -/
def execStartSensorActive (s : State) : Answer :=
  .next (s.sensed (fun s => { s with sensors.startActive := true }) State.startActive)
/-- R2. -/
def execStartSensorInactive (s : State) : Answer :=
  .next (s.sensed State.startInactive State.startInactive)
/-- R65. -/
def execReelRotationPulse (reel : Reel) (sinceUs : Nat) (s : State) : Answer :=
  .next (s.event (·.reelRotation reel sinceUs))
/-- R19. -/
def execReelStall (s : State) : Answer := .next (s.event State.reelStalled)
/-- R22. -/
def execStillTimeout (s : State) : Answer := .next (s.event State.stillOut)
/-- R23. -/
def execIdleTimeout (s : State) : Answer := .next (s.event State.idleOut)
/-- R25. -/
def execRecordCountdownMinute (s : State) : Answer := .next (s.event State.countdownMinute)
/-- R25. -/
def execRecordEnd (s : State) : Answer :=
  .next (s.event fun s => if s.transport.countdown.isSome then s.recordEnd else s)

/-! ### Servo and tape (chapters 2 to 4) -/

/-- R30. -/
def execDrumRevolution (periodUs : Nat) (phaseUs : Int) (s : State) : Answer :=
  .next (s.event (·.drumRevolution periodUs phaseUs))
/-- R34. -/
def execServoDeadlineExpiry (motor : Motor) (s : State) : Answer :=
  .next (s.event (·.deadlineOut motor))
/-- R32, R40, R47. -/
def execCapstanTachPulse (dir : Dir) (periodUs : Nat) (s : State) : Answer :=
  .next (s.event (·.tachPulse dir periodUs))
/-- R32. -/
def execCapstanHeld (s : State) : Answer := .next (s.event State.capstanHeld)
/-- R33. -/
def execCapstanReferencePeriod (inWindow : Bool) (s : State) : Answer :=
  .next (s.event (·.referencePeriod inWindow))
/-- R46. -/
def execControlPulse (dir : Dir) (altered : Bool) (intervalUs : Nat) (s : State) : Answer :=
  .next (s.event (·.controlPulse dir altered intervalUs))
/-- R38. -/
def execControlPulsesAbsent (s : State) : Answer := .next (s.event State.pulsesAbsent)
/-- R43. -/
def execAutoSearchTrialEnd (envelope : Nat) (s : State) : Answer :=
  .next (s.event (·.trialEnd envelope))

/-! ### Tuner (chapter 5) -/

/-- R79. -/
def execSynthLock (sync : Bool) (s : State) : Answer := .next (s.event (·.lockReport sync))
/-- R79. -/
def execSynthLockLoss (s : State) : Answer := .next (s.event State.lockLoss)
/-- R79. -/
def execLockLimitExpiry (s : State) : Answer := .next (s.event State.lockLimitOut)
/-- R80. -/
def execSyncPresent (s : State) : Answer := .next (s.event (·.syncReport true))
/-- R80. -/
def execSyncAbsent (s : State) : Answer := .next (s.event (·.syncReport false))
/-- R81. -/
def execAftReading (reading : AftReading) (s : State) : Answer := .next (s.event (·.aftReading reading))
/-- R93. -/
def execScanDwellExpiry (s : State) : Answer := .next (s.event State.dwellOut)
/-- R94. -/
def execScanCodeTimeout (s : State) : Answer := .next (s.event State.codeOut)

/-! ### Line data (chapter 6): the header of the packet decides (R100, R101) -/

/-- R103. -/
def execStationPacket (p : Packet) (s : State) : Answer := .next (s.event (·.packet p))
/-- R104. -/
def execTimePacket (p : Packet) (s : State) : Answer := .next (s.event (·.packet p))
/-- R101. -/
def execLabelFirst (p : Packet) (s : State) : Answer := .next (s.event (·.packet p))
/-- R102. -/
def execLabelLast (p : Packet) (s : State) : Answer := .next (s.event (·.packet p))
/-- R101. -/
def execLabelOtherFragment (p : Packet) (s : State) : Answer := .next (s.event (·.packet p))
/-- R100. -/
def execUnassignedPacket (p : Packet) (s : State) : Answer := .next (s.event (·.packet p))
/-- R107. -/
def execMissWindowExpiry (s : State) : Answer := .next (s.event State.missOut)

/-! ### Clock and scheduler (chapters 7 to 9) -/

/-- R148: the seconds recorded that pass in `cycles` (log 33). -/
def State.countSeconds (s : State) (cycles : Nat) : State :=
  let passed := (s.timeBase + cycles) / Config.hz - s.timeBase / Config.hz
  match s.transport.mode, s.transport.owner with
  | .recording, .program n =>
    match s.run n with
    | some r => if passed = 0 then s else s.setRun n { r with seconds := min 4294967295 (r.seconds + passed) }
    | none => s
  | _, _ => s

/-- R112: the time base advances. -/
def State.elapse (s : State) (cycles : Nat) : State :=
  { s.countSeconds cycles with timeBase := s.timeBase + cycles }

/-- R113: the time base reaches the end of the calendar's second, which completes (log 2). -/
def State.secondPasses (s : State) : State :=
  if s.clock.running then (s.elapse s.toSecondEnd).secondComplete else s

/-- R112, R174, R175: the calendar counts through RETAIN and under the reset line, and nothing follows: the CLOCK
group in deck memory (R124) is not rewritten until the start (DESIGN CHOICE, log 79). -/
def State.secondUnpowered (s : State) : State := { s.secondPasses with scratch := s.scratch }

/-- R113. -/
def execSecondComplete (s : State) : Answer :=
  .next (s.sensed State.secondUnpowered State.secondPasses)
/-- R123. -/
def execSeekLimitExpiry (s : State) : Answer := .next (s.event State.endClockSeek)
/-- R146. -/
def execOccurrenceStart (entry : Fin 16) (s : State) : Answer := .next (s.event (·.startEntry entry))
/-- R154. -/
def execWindowEnd (entry : Fin 16) (s : State) : Answer := .next (s.event (·.windowEnd entry))
/-- R152. -/
def execEndOfLabelTimeout (entry : Fin 16) (s : State) : Answer :=
  .next (s.event (·.labelTimeout entry))
/-- R157. -/
def execBudgetHoldOffExpiry (entry : Fin 16) (s : State) : Answer :=
  .next (s.event (·.holdOffOut entry))

/-! ### Power (chapter 10) -/

/-- R169. -/
def execSettleExpiry (s : State) : Answer := .next (s.event State.settled)
/-- R173. -/
def execMainsFailWarning (batteryLow : Bool) (s : State) : Answer := .next (s.mainsFail batteryLow)
/-- R174. -/
def execBatteryLow (s : State) : Answer := .next s.batteryReport
/-- R174, R175. -/
def execMainsReturn (strap0 strap1 : Bool) (s : State) : Answer := .next (s.mainsReturn strap0 strap1)
/-- R175. -/
def execResetLineAssert (s : State) : Answer := .next s.lineAssert
/-- R175. -/
def execResetLineRelease (strap0 strap1 : Bool) (s : State) : Answer :=
  .next (s.lineRelease strap0 strap1)

/-! ### Attention (R199, R200) -/

/-- R200: the throttle timer runs out. -/
def State.throttleOut (s : State) : State := { s with presenter.throttle := none }

/-- R199: a gate's second runs out. -/
def State.gateOut (s : State) (g : Fin 7) : State :=
  match s.presenter.gates[g] with
  | .opened => s
  | .closed _ deferred =>
    let s := { s with presenter.gates := s.presenter.gates.set g .opened }
    if deferred then s.askStatus g else s

/-- R200. -/
def execThrottleExpiry (s : State) : Answer := .next (s.light State.throttleOut)
/-- R199. -/
def execStatusGateExpiry (group : Fin 7) (s : State) : Answer := .next (s.light (·.gateOut group))

end Sys2Proof.Machine
end

