-- ==== Sys2Proof/Machine/Dispatch.lean ====
section
/-! DEFINITION. The dispatch: one arm per command of the opcode table, each one call of its meaning. -/
namespace Sys2Proof.Machine

/-- The effect of a command on everything but the queue. -/
def exec (i : Instr) (s : State) : Host.Outcome State Fault Refusal :=
  match i with
  | .play post => Sys2Proof.Machine.execPlay post s
  | .record post => Sys2Proof.Machine.execRecord post s
  | .stop post => Sys2Proof.Machine.execStop post s
  | .pause post => Sys2Proof.Machine.execPause post s
  | .cue post => Sys2Proof.Machine.execCue post s
  | .review post => Sys2Proof.Machine.execReview post s
  | .wind post => Sys2Proof.Machine.execWind post s
  | .eject post => Sys2Proof.Machine.execEject post s
  | .locate post => Sys2Proof.Machine.execLocate post s
  | .select post => Sys2Proof.Machine.execSelect post s
  | .fine post => Sys2Proof.Machine.execFine post s
  | .scan post => Sys2Proof.Machine.execScan post s
  | .setClock post => Sys2Proof.Machine.execSetClock post s
  | .counterZero post => Sys2Proof.Machine.execCounterZero post s
  | .trackValue post => Sys2Proof.Machine.execTrackValue post s
  | .trackAuto post => Sys2Proof.Machine.execTrackAuto post s
  | .powerOn post => Sys2Proof.Machine.execPowerOn post s
  | .powerOff post => Sys2Proof.Machine.execPowerOff post s
  | .blockResetTransport post => Sys2Proof.Machine.execBlockResetTransport post s
  | .blockResetTuner post => Sys2Proof.Machine.execBlockResetTuner post s
  | .blockResetLineData post => Sys2Proof.Machine.execBlockResetLineData post s
  | .blockResetScheduler post => Sys2Proof.Machine.execBlockResetScheduler post s
  | .blockResetPresenter post => Sys2Proof.Machine.execBlockResetPresenter post s
  | .badKind post => Sys2Proof.Machine.execBadKind post s
  | .claimTake word => Sys2Proof.Machine.execClaimTake word s
  | .claimGive word => Sys2Proof.Machine.execClaimGive word s
  | .attentionRead => Sys2Proof.Machine.execAttentionRead s
  | .attentionWrite word => Sys2Proof.Machine.execAttentionWrite word s
  | .levelWrite word => Sys2Proof.Machine.execLevelWrite word s
  | .identWrite word => Sys2Proof.Machine.execIdentWrite word s
  | .registerWriteOther reg single word => Sys2Proof.Machine.execRegisterWriteOther reg single word s
  | .parallelMemoryRead addr during => Sys2Proof.Machine.execParallelMemoryRead addr during s
  | .parallelWordWrite addr data during => Sys2Proof.Machine.execParallelWordWrite addr data during s
  | .parallelByteWrite addr high data during => Sys2Proof.Machine.execParallelByteWrite addr high data during s
  | .heldAccessServed => Sys2Proof.Machine.execHeldAccessServed s
  | .memRead addr during => Sys2Proof.Machine.execMemRead addr during s
  | .memWrite addr data during => Sys2Proof.Machine.execMemWrite addr data during s
  | .regRead addr => Sys2Proof.Machine.execRegRead addr s
  | .regWrite addr data => Sys2Proof.Machine.execRegWrite addr data s
  | .status => Sys2Proof.Machine.execStatus s
  | .serialUnknownCommand command => Sys2Proof.Machine.execSerialUnknownCommand command s
  | .serialFrameCut command addr clocks during => Sys2Proof.Machine.execSerialFrameCut command addr clocks during s
  | .camMoveArrival pos => Sys2Proof.Machine.execCamMoveArrival pos s
  | .camMoveLimit => Sys2Proof.Machine.execCamMoveLimit s
  | .reelsStill => Sys2Proof.Machine.execReelsStill s
  | .stopMotionTimeout => Sys2Proof.Machine.execStopMotionTimeout s
  | .cassetteSwitch closed => Sys2Proof.Machine.execCassetteSwitch closed s
  | .recordTabChange present => Sys2Proof.Machine.execRecordTabChange present s
  | .dewAppears => Sys2Proof.Machine.execDewAppears s
  | .dewClears => Sys2Proof.Machine.execDewClears s
  | .endSensorActive => Sys2Proof.Machine.execEndSensorActive s
  | .endSensorInactive => Sys2Proof.Machine.execEndSensorInactive s
  | .startSensorActive => Sys2Proof.Machine.execStartSensorActive s
  | .startSensorInactive => Sys2Proof.Machine.execStartSensorInactive s
  | .reelRotationPulse reel sinceUs => Sys2Proof.Machine.execReelRotationPulse reel sinceUs s
  | .reelStall => Sys2Proof.Machine.execReelStall s
  | .stillTimeout => Sys2Proof.Machine.execStillTimeout s
  | .idleTimeout => Sys2Proof.Machine.execIdleTimeout s
  | .recordCountdownMinute => Sys2Proof.Machine.execRecordCountdownMinute s
  | .recordEnd => Sys2Proof.Machine.execRecordEnd s
  | .drumRevolution periodUs phaseUs => Sys2Proof.Machine.execDrumRevolution periodUs phaseUs s
  | .servoDeadlineExpiry motor => Sys2Proof.Machine.execServoDeadlineExpiry motor s
  | .capstanTachPulse dir periodUs => Sys2Proof.Machine.execCapstanTachPulse dir periodUs s
  | .capstanHeld => Sys2Proof.Machine.execCapstanHeld s
  | .capstanReferencePeriod inWindow => Sys2Proof.Machine.execCapstanReferencePeriod inWindow s
  | .controlPulse dir altered intervalUs => Sys2Proof.Machine.execControlPulse dir altered intervalUs s
  | .controlPulsesAbsent => Sys2Proof.Machine.execControlPulsesAbsent s
  | .autoSearchTrialEnd envelope => Sys2Proof.Machine.execAutoSearchTrialEnd envelope s
  | .synthLock sync => Sys2Proof.Machine.execSynthLock sync s
  | .synthLockLoss => Sys2Proof.Machine.execSynthLockLoss s
  | .lockLimitExpiry => Sys2Proof.Machine.execLockLimitExpiry s
  | .syncPresent => Sys2Proof.Machine.execSyncPresent s
  | .syncAbsent => Sys2Proof.Machine.execSyncAbsent s
  | .aftReading reading => Sys2Proof.Machine.execAftReading reading s
  | .scanDwellExpiry => Sys2Proof.Machine.execScanDwellExpiry s
  | .scanCodeTimeout => Sys2Proof.Machine.execScanCodeTimeout s
  | .stationPacket p => Sys2Proof.Machine.execStationPacket p s
  | .timePacket p => Sys2Proof.Machine.execTimePacket p s
  | .labelFirst p => Sys2Proof.Machine.execLabelFirst p s
  | .labelLast p => Sys2Proof.Machine.execLabelLast p s
  | .labelOtherFragment p => Sys2Proof.Machine.execLabelOtherFragment p s
  | .unassignedPacket p => Sys2Proof.Machine.execUnassignedPacket p s
  | .missWindowExpiry => Sys2Proof.Machine.execMissWindowExpiry s
  | .secondComplete => Sys2Proof.Machine.execSecondComplete s
  | .seekLimitExpiry => Sys2Proof.Machine.execSeekLimitExpiry s
  | .occurrenceStart entry => Sys2Proof.Machine.execOccurrenceStart entry s
  | .windowEnd entry => Sys2Proof.Machine.execWindowEnd entry s
  | .endOfLabelTimeout entry => Sys2Proof.Machine.execEndOfLabelTimeout entry s
  | .budgetHoldOffExpiry entry => Sys2Proof.Machine.execBudgetHoldOffExpiry entry s
  | .settleExpiry => Sys2Proof.Machine.execSettleExpiry s
  | .mainsFailWarning batteryLow => Sys2Proof.Machine.execMainsFailWarning batteryLow s
  | .batteryLow => Sys2Proof.Machine.execBatteryLow s
  | .mainsReturn strap0 strap1 => Sys2Proof.Machine.execMainsReturn strap0 strap1 s
  | .resetLineAssert => Sys2Proof.Machine.execResetLineAssert s
  | .resetLineRelease strap0 strap1 => Sys2Proof.Machine.execResetLineRelease strap0 strap1 s
  | .throttleExpiry => Sys2Proof.Machine.execThrottleExpiry s
  | .statusGateExpiry group => Sys2Proof.Machine.execStatusGateExpiry group s

end Sys2Proof.Machine
end

