-- ==== Sys2Proof/Machine/Due.lean ====
section
/-! DEFINITION. The time base on an empty queue (log 2): the commands of the timers that have run out, or one
cycle of the time base. -/
namespace Sys2Proof.Machine

/-- A command, if its limit has run out. -/
def State.dueOf (s : State) (limit : Option Nat) (c : Instr) : List Instr :=
  if s.ranOut limit then [c] else []

/-- The transport's limits. -/
def State.dueTransport (s : State) : List Instr :=
  let t := s.transport
  s.dueOf (t.camMove.map (·.limit)) .camMoveLimit ++ s.dueOf t.stopLimit .stopMotionTimeout
    ++ s.dueOf t.stall .reelStall ++ s.dueOf t.still .stillTimeout ++ s.dueOf t.idle .idleTimeout
    ++ (match t.countdown with
      | some c => s.dueOf (some c.nextAt) (if c.minutes ≤ 1 then .recordEnd else .recordCountdownMinute)
      | none => [])

/-- The servo's limits. -/
def State.dueServo (s : State) : List Instr :=
  let v := s.servo
  s.dueOf (v.drumDeadline.map (·.expiry)) (.servoDeadlineExpiry .drum)
    ++ s.dueOf (v.capDeadline.map (·.expiry)) (.servoDeadlineExpiry .capstan)
    ++ s.dueOf v.holdAt .capstanHeld ++ s.dueOf v.absentAt .controlPulsesAbsent

/-- The limit of a scan step's phase. -/
def State.dueScan (s : State) : List Instr :=
  match s.tuner.scan with
  | some c => s.dueOf c.limit (if c.phase = .dwell then .scanDwellExpiry else .scanCodeTimeout)
  | none => []

/-- The limits of the tuner, the decoder, the clock and the power controller. -/
def State.dueSignals (s : State) : List Instr :=
  s.dueOf s.tuner.lockLimit .lockLimitExpiry ++ s.dueScan ++ s.dueOf s.decoder.window .missWindowExpiry
    ++ s.dueOf (s.clock.seek.map (·.expiry)) .seekLimitExpiry ++ s.dueOf s.power.settle .settleExpiry

/-- The presenter's limits. -/
def State.dueGate (s : State) (g : Fin 7) : List Instr :=
  match s.presenter.gates[g] with
  | .opened => []
  | .closed expiry _ => s.dueOf (some expiry) (.statusGateExpiry g)

def State.duePresenter (s : State) : List Instr :=
  s.dueOf s.presenter.throttle .throttleExpiry ++ groupNumbers.flatMap s.dueGate

/-- R143: the events of a running entry's occurrence time and its timers. -/
def State.dueEntry (s : State) (n : Fin 16) : List Instr :=
  match s.run n with
  | none => []
  | some r =>
    let stands := (s.entry n).owned.state != .interrupted
    (if stands ∧ !r.startTaken ∧ 0 ≤ s.time r then [.occurrenceStart n] else [])
      ++ (if stands ∧ !r.windowTaken ∧ r.windowEnd ≤ s.time r then [.windowEnd n] else [])
      ++ s.dueOf r.endTimer (.endOfLabelTimeout n) ++ s.dueOf r.holdOff (.budgetHoldOffExpiry n)

/-- R113: the next cycle ends a second of the calendar. -/
def State.dueSecond (s : State) : List Instr :=
  if s.clock.running ∧ Config.hz ≤ s.clock.calendar.phase + 1 then [.secondComplete] else []

/-- The commands of the timers that have run out; only the calendar counts while the part is off. -/
def State.dueCommands (s : State) : List Instr :=
  if s.on then
    s.dueTransport ++ s.dueServo ++ s.dueSignals ++ s.duePresenter ++ entryNumbers.flatMap s.dueEntry
      ++ s.dueSecond
  else s.dueSecond

/-- R112, R113: one cycle of the time base, and of a calendar that runs. -/
def State.cycle (s : State) : State :=
  let s := s.elapse 1
  if s.clock.running then { s with clock.calendar.phase := s.clock.calendar.phase + 1 } else s

/-- R131, R148: the cycle ends a second recorded for a program, by the seconds of uptime (log 33), so a retained run
record changes. -/
def State.countsSecond (s : State) : Bool :=
  s.transport.mode == .recording && (s.timeBase + 1) % Config.hz == 0
    && (match s.transport.owner with
      | .program _ => true
      | _ => false)

/-- The time base on an empty queue. Of the timers that have run out the first acts, and what it restarts no
longer stands as run out when the next is looked for (R107). -/
def State.idle (s : State) : State :=
  match s.dueCommands with
  | [] => if s.on ∧ s.countsSecond then s.event State.cycle else s.cycle
  | c :: _ => { s with pending := [c] }

end Sys2Proof.Machine
end

