-- ==== Sys2Proof/Machine/Step.lean ====
section
/-! DEFINITION. One step of the block: the command at the front of the queue, or the time base on an empty
queue (log 2). -/
namespace Sys2Proof.Machine

/-- One step. -/
def step (s : State) : Host.Outcome State Fault Refusal :=
  match s.pending with
  | [] => .next s.idle
  | c :: cs => exec c { s with pending := cs }

/-- The command a word spells, put at the front of the queue; no word spells one. -/
def State.withFetchWord (s : State) (nbits w : Nat) : State :=
  match decodeTableWord nbits w with
  | none => s
  | some c => { s with pending := c :: s.pending }

/-- R198: select falls after `clocks` bits of a serial frame: the command they spell joins the queue. -/
def State.clockIn (s : State) (frame : BitVec 40) (clocks : Nat) (during : Bool) : State :=
  { s with pending := s.pending ++ [serialBits frame clocks during] }

/-- R197: a bus cycle of the parallel port: the command that its pins spell, if any, joins the queue. -/
def State.busCycle (s : State) (p : ParallelPins) (during : Bool) : State :=
  { s with pending := s.pending ++ (p.cycle during).toList }

end Sys2Proof.Machine
end

