-- ==== Sys2Proof/WellFormed.lean ====
section
/-! DEFINITION. Which terms are commands of their row: an action code of CLAIM, a register number, a command
code, an address, a cut frame's length, the header of a packet. -/
namespace Sys2Proof

/-- R196: the action bits of a word written to CLAIM. -/
def claimAction (w : Word) : Nat := w.toNat / 16 % 4

/-- R100, R101: the header's kind and, where the row names them, its fragments. -/
def Packet.headed (p : Packet) (kind : Nat) (fragments : List Nat) : Bool :=
  p.kind == kind && fragments.contains p.fragment

/-- R198: the command codes of a serial frame. -/
def serialCommand (c : Byte) : Bool := 1 ≤ c.toNat && c.toNat ≤ 5

/-- The term is a command of its row. A serial access above deck memory is none that the spec describes; `exec` still
carries it out (log 9). -/
def Instr.wellFormed : Instr → Bool
  | .claimTake w => claimAction w == 1
  | .claimGive w => claimAction w == 2
  | .registerWriteOther reg single _ => single || decide (5 ≤ reg.toNat)
  | .memRead addr _ => decide (addr.toNat < Config.memBytes)
  | .memWrite addr _ _ => decide (addr.toNat < Config.memBytes)
  | .serialUnknownCommand c => !serialCommand c
  | .serialFrameCut _ _ clocks _ => decide (clocks < 40)
  | .stationPacket p => p.headed 1 [0, 1, 2, 3]
  | .timePacket p => p.headed 2 [0, 1, 2, 3]
  | .labelFirst p => p.headed 3 [1]
  | .labelLast p => p.headed 3 [3]
  | .labelOtherFragment p => p.headed 3 [0, 2]
  | .unassignedPacket p => p.headed 0 [0, 1, 2, 3]
  | _ => true

end Sys2Proof
end

