-- ==== Sys2Proof/Safety.lean ====
section
/-! DEFINITION. What the statements speak of: the conditions under which a command acts, the state a POST's
event begins from, the invariants that every step keeps. -/
namespace Sys2Proof

/-- The word that a request's row writes to POST, none for the other rows. -/
def Instr.post? : Instr → Option Word
  | .play w => some w | .record w => some w | .stop w => some w | .pause w => some w
  | .cue w => some w | .review w => some w | .wind w => some w | .eject w => some w
  | .locate w => some w | .select w => some w | .fine w => some w | .scan w => some w
  | .setClock w => some w | .counterZero w => some w | .trackValue w => some w
  | .trackAuto w => some w | .powerOn w => some w | .powerOff w => some w
  | .blockResetTransport w => some w | .blockResetTuner w => some w
  | .blockResetLineData w => some w | .blockResetScheduler w => some w
  | .blockResetPresenter w => some w | .badKind w => some w
  | _ => none

/-- The packet that a packet's row carries. -/
def Instr.packet? : Instr → Option Packet
  | .stationPacket p => some p | .timePacket p => some p | .labelFirst p => some p
  | .labelLast p => some p | .labelOtherFragment p => some p | .unassignedPacket p => some p
  | _ => none

end Sys2Proof

namespace Sys2Proof.Machine

/-! ### When a command acts -/

/-- R198: the port latched takes a register write: in serial mode, with no access pending. -/
def State.takesWrites (s : State) : Bool :=
  s.on && (s.port.mode == .parallel || s.port.serial.isNone)

/-- R196, R198: what the frame of a register write leaves, before the write acts. -/
def State.through (s : State) : State :=
  match s.port.mode with
  | .parallel => s
  | .serial => s.frame 4 true 0

/-- R184: the state in which the event of a POST of `w` begins. -/
def State.posted (s : State) (w : Word) : State := { s.through with port.postEcho := w }.afterWrites

/-- R184: the POST of `w` takes slot `n` with request `r`. -/
def State.serves (s : State) (w : Word) (n : Fin 16) (r : Request) : Prop :=
  s.takesWrites = true ∧ (s.posted w).postSlot w = some n ∧ (s.posted w).slotRequest n = r

/-- R184: the state in which the request of slot `n` acts. -/
def State.taken (s : State) (w : Word) (n : Fin 16) (r : Request) : State := (s.posted w).copySlot n r

/-- The rest of the event of a POST. -/
def State.finishPost (w : Word) (old x : State) : State :=
  State.finishWith (State.markTaken w) old x

/-- 11.5: the kind code of a transport request. -/
def TransportKind.code : TransportKind → Nat
  | .play => 1 | .record => 2 | .stop => 3 | .pause => 4 | .cue => 5 | .review => 6 | .wind => 7
  | .locate => 8 | .eject => 9

/-- The transport and the tape stand still: no path, no cam move, no motor under drive, no LOCATE. -/
def State.still (s : State) : Bool :=
  s.transport.path.isNone && s.transport.camMove.isNone && s.transport.stopLimit.isNone
    && s.servo.cap == .off && s.servo.capTarget == .none && s.servo.reel == .off
    && s.position.locate.isNone

/-- R168: with power, the power state is ACTIVE exactly while a need stands. -/
def Power.followsNeeds (p : Power) : Bool :=
  p.state == .retain || (p.state == .active) == p.needed

/-- The powers and needs stand as the end of an event leaves them (R85, R167, R168). -/
def State.settledPower (s : State) : Bool :=
  s.power.followsNeeds && s.power.transportNeed == s.transportNeeds
    && s.tunerWanted == (s.tuner.signal != .unpowered)

/-! ### Invariants -/

/-- R178: deck memory is in its canonical form. -/
def State.memOk (s : State) : Bool := Memory.wf s.losses s.mem

/-- R23: the idle timer runs only in STOPPED with neither owner set. -/
def State.idleOk (s : State) : Bool :=
  s.transport.idle.isNone || (s.transport.mode == .stopped && s.transport.owner == .none
    && s.transport.control.isNone)

/-- R180: nothing is left to do between events. -/
def State.between (s : State) : Bool := s.scratch == Scratch.clear

end Sys2Proof.Machine
end

