-- ==== Sys2Proof/Certificates/Slice0/Obligations.lean ====
section
/-! DEFINITION. The statements about the model, one definition each. In them `o` is the state in which the
command's event begins (the record writes of the event before have ended), `x` what the command's own rule
leaves, and `State.finish o x` the rest of the event: the blocks that follow, then the records in deck memory. -/
section
open Sys2Proof Sys2Proof.Machine

/-! ### The step, reset, invariants -/

/-- A step takes the command at the front of the queue and runs it on the state with the queue's rest. -/
def Obligations.StepRunsTheFrontCommand : Prop :=
  ∀ (c : Instr) (cs : List Instr) (s : State), s.pending = c :: cs →
    step s = exec c { s with pending := cs }

/-- The model's choice (log 2): on an empty queue a step puts the first due command of the timers that have run out
into the queue. Where none is due, the time base advances by one cycle, with the phase of a calendar that runs;
where that cycle ends a second of uptime in RECORDING for a program, the second is counted among those recorded (R148;
that they are counted at the seconds of uptime is the model's choice, log 33), which with the part on is an event.
Everything else stays. -/
def Obligations.StepOnAnEmptyQueue : Prop :=
  ∀ s : State, s.pending = [] →
    (∀ c cs, s.dueCommands = c :: cs → step s = .next { s with pending := [c] }) ∧
    (s.dueCommands = [] → s.countsSecond = false →
      step s = .next { s with
        timeBase := s.timeBase + 1
        clock.calendar.phase := s.clock.calendar.phase + (if s.clock.running then 1 else 0) }) ∧
    (∀ n, s.dueCommands = [] → s.countsSecond = true → s.transport.owner = .program n →
      let counted := fun o : State =>
        let recorded := match o.run n with
          | none => o
          | some r => o.setRun n { r with seconds := min 4294967295 (r.seconds + 1) }
        { recorded with
            timeBase := s.timeBase + 1
            clock.calendar.phase := s.clock.calendar.phase + (if s.clock.running then 1 else 0) }
      (s.on = true → step s = .next (State.finish s.afterWrites (counted s.afterWrites))) ∧
      (s.on = false → step s = .next (counted s)))

/-- A cold start with the mechanism as the model's reset finds it (log 7) leaves the reset state, here from a part
in RETAIN that had a calendar, a counter, a map, a selection and settings of its own and lost its retention: at
the mains return, and with the reset line asserted at its release. Only the count of losses, the port mode the
straps give and the interlock of the start's own records differ. -/
def Obligations.AColdStartLeavesTheResetState : Prop :=
  ∀ a b : Bool,
    let lost : State := { State.reset with
      clock := { Clock.reset with calendar := ⟨15000, 40000, 77⟩, state := .host, suspended := true }
      position := { Position.reset with counter := 4321, map := [⟨100, .written, some 3⟩] }
      servo := { Servo.reset with tracking := 9, playSpeed := .long }
      tuner := { Tuner.reset with selection := .direct 2000 }
      power := { Power.reset with state := .retain, mainsPresent := false, retentionLost := true }
      mem := [(0x0003, 2), (0x0C00, 7)], timeBase := 99999 }
    let held : State := { lost with
      power.mainsPresent := true, power.lineSeen := true, power.lineAsserted := true }
    (∃ spans, exec (.mainsReturn a b) lost = .next { State.reset with
      losses := 1, port := { Port.reset with mode := portModeOf a b }, interlock := spans }) ∧
    (∃ spans, exec (.resetLineRelease a b) held = .next { State.reset with
      losses := 1, port := { Port.reset with mode := portModeOf a b }, interlock := spans })

/-- What a cold start leaves, where the spec gives the value; the mechanism's sensors, the straps and the free
storage are the model's choice (log 7 and 8), and so are the zeros in the two bytes of an entry that are free to the
host (log 88). After a cold start deck memory holds the default settings, empty slots, UNUSED entries, presets not
in use and, in each status group, tape map and label context record, the figures of the state. -/
def Obligations.ResetValuesAndMemory : Prop :=
  (State.reset.transport.mode = .empty ∧ State.reset.transport.owner = .none ∧
   State.reset.transport.control = none ∧ State.reset.transport.fault = .none ∧
   State.reset.servo.drum = .off ∧ State.reset.servo.cap = .off ∧ State.reset.servo.reel = .off ∧
   State.reset.servo.tracking = 0 ∧ State.reset.servo.playSpeed = .standard ∧
   State.reset.position.counter = 0 ∧ State.reset.position.source = .read ∧ State.reset.position.map = [] ∧
   State.reset.remaining.fraction = none ∧ State.reset.remaining.ks = none ∧ State.reset.remaining.ku = none ∧
   State.reset.tuner.owner = .none ∧ State.reset.tuner.selection = .none ∧
   State.reset.tuner.signal = .unpowered ∧ State.reset.decoder.current = none ∧
   State.reset.clock.calendar = ⟨dayNumber ⟨1980, 1, 1⟩, 0, 0⟩ ∧ State.reset.clock.running = true ∧
   State.reset.clock.state = .unset ∧
   (∀ n : Fin 16, State.reset.entry n = Entry.reset) ∧
   State.reset.power.state = .quiet ∧ State.reset.power.supply = .off ∧ State.reset.power.wake = .none ∧
   State.reset.power.lostLatch = true ∧ State.reset.power.startKind = .cold ∧
   (∀ n : Fin 16, State.reset.requests.slots[n] = none) ∧
   State.reset.claims = ⟨⟨false, false, false⟩, ⟨false, false, false⟩⟩ ∧
   State.reset.presenter.cl = 15 ∧ ⟨.power, 0⟩ ∈ State.reset.presenter.pending ∧
   State.reset.port.postEcho = 0 ∧ State.reset.pending = []) ∧
  (State.reset.bytes 0 64 = defaultSettings ∧
   (∀ n : Fin 16, State.reset.bytes (Config.slotBase n.val) 28 = zeros 28) ∧
   (∀ n : Fin 16, State.reset.bytes (Config.entryBase n.val) 32 = zeros 12 ++ Owned.reset.image) ∧
   (∀ p : Fin 64, State.reset.bytes (Config.presetBase (p.val + 1)) 16 = zeros 16) ∧
   (∀ g : Fin 7, State.reset.bytes (Config.groupSpan g.val).1 (Config.groupSpan g.val).2
     = State.reset.group g.val) ∧
   State.reset.bytes Config.tapeMapBase 192 = State.reset.tapeMapImage ∧
   State.reset.bytes Config.labelContextBase 64 = State.reset.labelImage ∧
   (∀ n : Fin 16, State.reset.bytes (Config.runRecordBase n.val) 32 = zeros 32))

/-- The reset state meets every invariant below. -/
def Obligations.InvariantsHoldAtReset : Prop :=
  State.reset.memOk = true ∧ State.reset.power.followsNeeds = true ∧ State.reset.idleOk = true ∧
    State.reset.between = true

/-- Every step keeps deck memory in its canonical form. -/
def Obligations.StepKeepsMemoryForm : Prop :=
  ∀ s t : State, s.memOk = true → step s = .next t → t.memOk = true

/-- R168 as an invariant: with power, the power state is ACTIVE exactly while some need stands. -/
def Obligations.StepKeepsPowerWithNeeds : Prop :=
  ∀ s t : State, s.power.followsNeeds = true → step s = .next t → t.power.followsNeeds = true

/-- R23 as an invariant: the idle timer runs only in STOPPED with no recording owner and no program control.
Between two events no signal and no record write is left over. -/
def Obligations.StepKeepsIdleTimerRule : Prop :=
  (∀ s t : State, s.idleOk = true → step s = .next t → t.idleOk = true) ∧
  (∀ s t : State, s.between = true → step s = .next t → t.between = true)

/-- Every command completes, in every state. With the part on, each signal of the mechanism, the motors, the tape,
the tuner, the line data, the clock and the timers is an event in which its own rule acts once on the state that the
record writes of the event before have left. R174, R175: while the part is off (RETAIN, or held by the reset line)
the host's commands and the events of the blocks without power change nothing, and a sensor's report changes the
sensor alone. A serial access above deck memory completes too (log 9): a read with a word that nothing fixes, a write
with no byte changed. -/
def Obligations.EveryCommandCompletes : Prop :=
  (∀ (c : Instr) (s : State), ∃ t, exec c s = .next t) ∧
  (∀ (s : State) (pos : CamPos) (b : Bool) (reel : Reel) (d : Dir) (us : Nat) (phase : Int) (m : Motor)
     (q : AftReading) (n : Fin 16), s.on = true →
     let o := s.afterWrites
     (∀ e ∈ [(Instr.camMoveArrival pos, o.camReport pos), (.camMoveLimit, o.moveLimit),
         (.reelsStill, o.motionStopped),
         (.stopMotionTimeout, if s.transport.stopLimit.isSome then o.motionStopped else o),
         (.cassetteSwitch b, o.switchChange b), (.recordTabChange b, o.tabChange b),
         (.dewAppears, o.dewAppears), (.dewClears, o.dewClears), (.endSensorActive, o.endActive),
         (.endSensorInactive, o.endInactive), (.startSensorActive, o.startActive),
         (.startSensorInactive, o.startInactive), (.reelRotationPulse reel us, o.reelRotation reel us),
         (.reelStall, o.reelStalled), (.stillTimeout, o.stillOut), (.idleTimeout, o.idleOut),
         (.recordCountdownMinute, o.countdownMinute),
         (.recordEnd, if s.transport.countdown.isSome then o.recordEnd else o),
         (.drumRevolution us phase, o.drumRevolution us phase), (.servoDeadlineExpiry m, o.deadlineOut m),
         (.capstanTachPulse d us, o.tachPulse d us), (.capstanHeld, o.capstanHeld),
         (.capstanReferencePeriod b, o.referencePeriod b), (.controlPulse d b us, o.controlPulse d b us),
         (.controlPulsesAbsent, o.pulsesAbsent), (.autoSearchTrialEnd us, o.trialEnd us)],
       exec e.1 s = .next (State.finish o e.2)) ∧
     (∀ e ∈ [(Instr.synthLock b, o.lockReport b), (.synthLockLoss, o.lockLoss),
         (.lockLimitExpiry, o.lockLimitOut), (.syncPresent, o.syncReport true),
         (.syncAbsent, o.syncReport false), (.aftReading q, o.aftReading q), (.scanDwellExpiry, o.dwellOut),
         (.scanCodeTimeout, o.codeOut), (.missWindowExpiry, o.missOut), (.secondComplete, o.secondPasses),
         (.seekLimitExpiry, o.endClockSeek), (.occurrenceStart n, o.startEntry n), (.windowEnd n, o.windowEnd n),
         (.endOfLabelTimeout n, o.labelTimeout n), (.budgetHoldOffExpiry n, o.holdOffOut n),
         (.settleExpiry, o.settled)],
       exec e.1 s = .next (State.finish o e.2)) ∧
     (∀ c p, c.packet? = some p → exec c s = .next (State.finish o (o.packet p)))) ∧
  (∀ (s : State) (w a : Word) (a13 : BitVec 13) (b : Bool) (x : Byte) (k : Nat) (reg : BitVec 3) (g : Fin 7)
     (pos : CamPos) (reel : Reel) (d : Dir) (us : Nat) (phase : Int) (m : Motor) (q : AftReading) (n : Fin 16),
     s.on = false →
     (∀ c, c.post? = some w → exec c s = .next s) ∧
     (∀ c p, c.packet? = some p → exec c s = .next s) ∧
     (∀ c ∈ [Instr.claimTake w, .claimGive w, .attentionRead, .attentionWrite w, .levelWrite w, .identWrite w,
         .registerWriteOther reg b w, .parallelMemoryRead a13 b, .parallelWordWrite a13 w b,
         .parallelByteWrite a13 b x b, .parallelByteWrite a13 (!b) x b, .heldAccessServed, .memRead a b,
         .memWrite a w b, .regRead a, .regWrite a w, .status, .serialUnknownCommand x, .serialFrameCut x a k b,
         .throttleExpiry, .statusGateExpiry g],
       exec c s = .next s) ∧
     (∀ c ∈ [Instr.camMoveLimit, .reelsStill, .stopMotionTimeout, .reelRotationPulse reel us, .reelStall,
         .stillTimeout, .idleTimeout, .recordCountdownMinute, .recordEnd, .drumRevolution us phase,
         .servoDeadlineExpiry m, .capstanTachPulse d us, .capstanHeld, .capstanReferencePeriod b,
         .controlPulse d b us, .controlPulsesAbsent, .autoSearchTrialEnd us, .synthLock b, .synthLockLoss,
         .lockLimitExpiry, .syncPresent, .syncAbsent, .aftReading q, .scanDwellExpiry, .scanCodeTimeout,
         .missWindowExpiry, .seekLimitExpiry, .occurrenceStart n, .windowEnd n, .endOfLabelTimeout n,
         .budgetHoldOffExpiry n, .settleExpiry],
       exec c s = .next s) ∧
     (∀ e ∈ [(Instr.camMoveArrival pos, { s.sensors with cam := .at pos }),
         (.cassetteSwitch b, { s.sensors with switchClosed := b }),
         (.recordTabChange b, { s.sensors with tabPresent := b }), (.dewAppears, { s.sensors with dew := true }),
         (.dewClears, { s.sensors with dew := false }), (.endSensorActive, { s.sensors with endActive := true }),
         (.endSensorInactive, { s.sensors with endActive := false }),
         (.startSensorActive, { s.sensors with startActive := true }),
         (.startSensorInactive, { s.sensors with startActive := false })],
       exec e.1 s = .next { s with sensors := e.2 })) ∧
  (∀ (s : State) (a w : Word) (during : Bool), s.on = true → s.port.mode = .serial → 0x4000 ≤ a.toNat →
     (s.beginAccess during).port.serial = none →
     let o := s.beginAccess during
     exec (.memRead a during) s = .next { o with
       draws := s.draws + 1
       port := { o.port with
         reply := some ⟨o.port.lastCommand, true, Config.freeWord s.draws⟩, lastCommand := 1 } } ∧
     exec (.memWrite a w during) s = .next { o with
       port := { o.port with reply := some ⟨o.port.lastCommand, true, 0⟩, lastCommand := 2 } })

/-! ### The rest of an event -/

/-- The rest of an event keeps all that the command's rule has left, where no signal is left for another block,
no path is under way and the power stands as the needs ask: only the idle timer, the auto search with its
offset, the drum's reference and the open reel revolutions may still follow; then the records are written in deck
memory, and causes STATUS are asked for through their gates. The queue is the one the event began with. -/
def Obligations.TheRestOfACalmEvent : Prop :=
  ∀ o x : State, x.scratch.notes = [] → x.transport.path = none → x.settledPower = true →
    let t := State.finish o x
    t = { x with
      transport := { x.transport with idle := t.transport.idle }
      servo := { x.servo with
        auto := t.servo.auto, tracking := t.servo.tracking, drumRef := t.servo.drumRef }
      remaining := t.remaining
      presenter := { x.presenter with pending := t.presenter.pending, gates := t.presenter.gates }
      mem := t.mem, losses := o.losses, interlock := t.interlock, scratch := Scratch.clear
      pending := o.pending } ∧
    (t.remaining = x.remaining ∨ t.remaining = x.remaining.void) ∧
    (∀ c, c ∈ x.presenter.pending → c ∈ t.presenter.pending) ∧
    (∀ c, c ∈ t.presenter.pending → c ∈ x.presenter.pending ∨ ∃ g : Fin 7, c = ⟨.status, g.val⟩) ∧
    (∀ g : Fin 7, t.presenter.gates[g] = x.presenter.gates[g] ∨
      (x.presenter.gates[g] = .opened ∧ t.presenter.gates[g] = .closed (x.timeBase + Config.hz) false ∧
        ⟨.status, g.val⟩ ∈ t.presenter.pending) ∨
      (∃ e deferred, x.presenter.gates[g] = .closed e deferred ∧ t.presenter.gates[g] = .closed e true))

/-- R179: the rest of an event changes only the bytes of deck memory that lie in a record it writes, and those
spans stand under the interlock. -/
def Obligations.EventsWriteOnlyTheirRecords : Prop :=
  ∀ (o x : State) (last : State → State → State) (a : Nat),
    (∀ span ∈ (State.finishWith last o x).interlock, ¬(span.1 ≤ a ∧ a < span.1 + span.2)) →
    Memory.read (State.finishWith last o x).losses (State.finishWith last o x).mem a
      = Memory.read o.losses o.mem a

/-- R180: a status group whose figures an event has changed stands in deck memory with its new figures. R180,
R199: with it its STATUS cause is asked for: raised through an open gate, which closes for a second, or deferred by
a closed one; for the CLOCK group only where the event asks (R124). -/
def Obligations.ChangedGroupsArePublished : Prop :=
  ∀ (o x : State) (last : State → State → State) (g : Fin 7),
    let t := State.finishWith last o x
    t.group g.val ≠ o.group g.val →
    (∀ i, i < (Config.groupSpan g.val).2 →
      Memory.read t.losses t.mem ((Config.groupSpan g.val).1 + i) = (t.group g.val).getD i 0) ∧
    (let y := last o (State.settleEvent o x)
     g ≠ 4 ∨ y.scratch.askClock = true →
     (y.presenter.gates[g] = .opened → ⟨.status, g.val⟩ ∈ t.presenter.pending ∧
       t.presenter.gates[g] = .closed (y.timeBase + Config.hz) false) ∧
     (∀ e deferred, y.presenter.gates[g] = .closed e deferred → t.presenter.gates[g] = .closed e true))

/-! ### Ports and registers -/

/-- R178, R197: a parallel access to a word that no record write covers is served at once. A read returns the
word; a write lands, but for a slot's state byte given another value than EMPTY or POSTED (R183); every other
byte of deck memory and everything else stays. R197: which access the pins of a bus cycle make, by chip enable, the
three strobes and register-select, with the register number in the low three address lines; the queue takes the
command. R196: with PARALLEL latched a read of a register returns its word, and one of ATTENTION takes its cause; a
write acts, of a number of 5 or above or of a single byte it is ignored, and WAIT is not asserted. That the rows of
the register access stand for these cycles, and which data lines a byte write takes, is the model's choice (log 73). -/
def Obligations.ParallelAccessesAreServed : Prop :=
  (∀ (s : State) (a : BitVec 13) (during : Bool), s.on = true → s.port.mode = .parallel →
     (s.beginAccess during).port.held = none → (s.beginAccess during).covered (2 * a.toNat) = false →
     let o := s.beginAccess during
     exec (.parallelMemoryRead a during) s
       = .next { o with port.dataOut := some (o.memWord (2 * a.toNat)) } ∧
     (∀ w, ∃ t, exec (.parallelWordWrite a w during) s = .next t ∧ t = { o with mem := t.mem } ∧
       Memory.read t.losses t.mem (2 * a.toNat)
         = (if isSlotState (2 * a.toNat) = true ∧ 1 < (lowByte w).toNat
             then Memory.read o.losses o.mem (2 * a.toNat) else lowByte w) ∧
       Memory.read t.losses t.mem (2 * a.toNat + 1) = highByte w ∧
       ∀ x, x ≠ 2 * a.toNat → x ≠ 2 * a.toNat + 1 →
         Memory.read t.losses t.mem x = Memory.read o.losses o.mem x) ∧
     (∀ high b, ∃ t, exec (.parallelByteWrite a high b during) s = .next t ∧ t = { o with mem := t.mem } ∧
       let at_ := if high then 2 * a.toNat + 1 else 2 * a.toNat
       Memory.read t.losses t.mem at_
         = (if isSlotState at_ = true ∧ 1 < b.toNat then Memory.read o.losses o.mem at_ else b) ∧
       ∀ x, x ≠ at_ → Memory.read t.losses t.mem x = Memory.read o.losses o.mem x)) ∧
  (∀ (ce rs oe wh wl : Bool) (a : BitVec 13) (w : Word) (during : Bool) (s : State),
     let p : ParallelPins := ⟨ce, rs, a, oe, wh, wl, w⟩
     let number := a.toNat % 8
     let read := ce = true ∧ oe = true ∧ wh = false ∧ wl = false
     let word := ce = true ∧ oe = false ∧ wh = true ∧ wl = true
     let high := ce = true ∧ oe = false ∧ wh = true ∧ wl = false
     let low := ce = true ∧ oe = false ∧ wh = false ∧ wl = true
     (¬read → ¬word → ¬high → ¬low → p.cycle during = none ∧ s.busCycle p during = s) ∧
     (rs = false →
       (read → p.cycle during = some (.parallelMemoryRead a during)) ∧
       (word → p.cycle during = some (.parallelWordWrite a w during)) ∧
       (high → p.cycle during = some (.parallelByteWrite a true (highByte w) during)) ∧
       (low → p.cycle during = some (.parallelByteWrite a false (lowByte w) during))) ∧
     (rs = true →
       (read → p.cycle during = some (if number = 3 then .attentionRead else .regRead (BitVec.ofNat 16 number))) ∧
       (word → p.cycle during = some (.regWrite (BitVec.ofNat 16 number) w)) ∧
       (high ∨ low → p.cycle during = some (.registerWriteOther (BitVec.ofNat 3 number) true w))) ∧
     (∀ c, p.cycle during = some c → s.busCycle p during = { s with pending := s.pending ++ [c] } ∧
       (s.pending = [] → step (s.busCycle p during) = exec c s))) ∧
  (∀ (s : State) (a w : Word) (reg : BitVec 3), s.on = true → s.port.mode = .parallel →
     (∃ t, exec (.regRead a) s = .next t ∧ t.port = { s.port with dataOut := some (s.registerWord a.toNat) } ∧
       t = { s with port := t.port, presenter := t.presenter } ∧
       (a ≠ 3 → t.presenter = s.presenter) ∧ (a = 3 → t.presenter = s.attentionTake.presenter)) ∧
     exec (.regRead 3) s = exec .attentionRead s ∧
     exec (.regWrite 0 w) s = exec (.identWrite w) s ∧ exec (.regWrite 1 w) s = .next (s.post w) ∧
     exec (.regWrite 2 w) s = exec (.claimTake w) s ∧ exec (.regWrite 3 w) s = exec (.attentionWrite w) s ∧
     exec (.regWrite 4 w) s = exec (.levelWrite w) s ∧
     (5 ≤ a.toNat → s.registerWord a.toNat = 0 ∧ exec (.regWrite a w) s = .next s) ∧
     exec (.registerWriteOther reg true w) s = .next s)

/-- R179, R197: an access to a word inside the span of a record being written is held by WAIT, and served when
the record writes end: a read returns the word, the bytes of a write land. R198: so is a serial access that is
pending, with the word as its data or its bytes landed. Everything that is not named stays. -/
def Obligations.CoveredAccessesWait : Prop :=
  (∀ (s : State) (a : BitVec 13) (w : Word) (high : Bool) (b : Byte), s.on = true → s.port.mode = .parallel →
     s.port.held = none → s.covered (2 * a.toNat) = true →
     (∀ c ∈ [(Instr.parallelMemoryRead a true, Access.read (2 * a.toNat)),
         (.parallelWordWrite a w true, .writeWord (2 * a.toNat) w),
         (.parallelByteWrite a high b true, .writeByte (2 * a.toNat) high b)],
       exec c.1 s = .next { s with port.held := some c.2 } ∧
       ({ s with port.held := some c.2 } : State).waitLine = true) ∧
     (s.port.serial = none →
       let ended := { s with interlock := [], scratch := Scratch.clear }
       let old := fun x => Memory.read s.losses s.mem x
       exec .heldAccessServed { s with port.held := some (.read (2 * a.toNat)) }
         = .next { ended with port.dataOut := some (s.memWord (2 * a.toNat)) } ∧
       (∃ t, exec .heldAccessServed { s with port.held := some (.writeWord (2 * a.toNat) w) } = .next t ∧
         t = { ended with mem := t.mem } ∧
         Memory.read t.losses t.mem (2 * a.toNat)
           = (if isSlotState (2 * a.toNat) = true ∧ 1 < (lowByte w).toNat then old (2 * a.toNat) else lowByte w) ∧
         Memory.read t.losses t.mem (2 * a.toNat + 1) = highByte w ∧
         ∀ x, x ≠ 2 * a.toNat → x ≠ 2 * a.toNat + 1 → Memory.read t.losses t.mem x = old x) ∧
       (∃ t, exec .heldAccessServed { s with port.held := some (.writeByte (2 * a.toNat) high b) } = .next t ∧
         t = { ended with mem := t.mem } ∧
         let at_ := if high then 2 * a.toNat + 1 else 2 * a.toNat
         Memory.read t.losses t.mem at_ = (if isSlotState at_ = true ∧ 1 < b.toNat then old at_ else b) ∧
         ∀ x, x ≠ at_ → Memory.read t.losses t.mem x = old x))) ∧
  (∀ (s : State) (a : Nat) (w : Word), s.on = true → s.port.held = none → a % 2 = 0 → a < 0x4000 →
     let ended := { s with interlock := [], scratch := Scratch.clear }
     (s.port.serial = some ⟨a, none, none⟩ →
       exec .heldAccessServed s
         = .next { ended with port.serial := some ⟨a, none, some (s.memWord a)⟩ }) ∧
     (s.port.serial = some ⟨a, some w, none⟩ →
       ∃ t, exec .heldAccessServed s = .next t ∧
         t = { ended with mem := t.mem, port.serial := some ⟨a, some w, some 0⟩ } ∧
         Memory.read t.losses t.mem a = (if isSlotState a = true ∧ 1 < (lowByte w).toNat
           then Memory.read s.losses s.mem a else lowByte w) ∧
         Memory.read t.losses t.mem (a + 1) = highByte w ∧
         ∀ x, x ≠ a → x ≠ a + 1 → Memory.read t.losses t.mem x = Memory.read s.losses s.mem x))

/-- R198: a serial access to memory with none pending: served with ready 1 where no record write covers the
word, else ready 0 and pending. Bit 0 of the address is ignored. -/
def Obligations.SerialMemoryAccesses : Prop :=
  ∀ (s : State) (a w : Word) (during : Bool), s.on = true → s.port.mode = .serial → a.toNat < 0x4000 →
    (s.beginAccess during).port.serial = none →
    let o := s.beginAccess during
    let at_ := a.toNat / 2 * 2
    (o.covered at_ = false →
      exec (.memRead a during) s = .next { o with port :=
        { o.port with reply := some ⟨o.port.lastCommand, true, o.memWord at_⟩, lastCommand := 1 } } ∧
      ∃ t, exec (.memWrite a w during) s = .next t ∧
        t = { o with mem := t.mem, port :=
          { o.port with reply := some ⟨o.port.lastCommand, true, 0⟩, lastCommand := 2 } } ∧
        (isSlotState at_ = false → t.memWord at_ = w) ∧
        ∀ x, x ≠ at_ → x ≠ at_ + 1 → Memory.read t.losses t.mem x = Memory.read o.losses o.mem x) ∧
    (o.covered at_ = true →
      exec (.memRead a during) s = .next { o with port :=
        { o.port with
            reply := some ⟨o.port.lastCommand, false, 0⟩, lastCommand := 1
            serial := some ⟨at_, none, none⟩ } } ∧
      exec (.memWrite a w during) s = .next { o with port :=
        { o.port with
            reply := some ⟨o.port.lastCommand, false, 0⟩, lastCommand := 2
            serial := some ⟨at_, some w, none⟩ } })

/-- R198: while a serial access is pending the four other commands are ignored with ready 0; STATUS polls it, and
ends a served one (of a served write the model's choice, log 28); an unknown command is ignored. R198: a frame cut
short has no effect, except that a read served at its ready flag stays served, with the take from ATTENTION it made,
and that a memory read that was held stays pending. R198: the 40 bits of a frame, most significant first, spell its
command by the code, the address and the data; the queue takes it. -/
def Obligations.SerialStatusAndOtherFrames : Prop :=
  (∀ s : State, s.on = true → s.port.mode = .serial →
     let reply := fun (c : Byte) (ready : Bool) (d : Word) =>
       { s.port with reply := some ⟨s.port.lastCommand, ready, d⟩, lastCommand := c }
     (s.port.serial = none → exec .status s = .next { s with port := reply 5 true 0 }) ∧
     (∀ x, s.port.serial = some x →
       (x.served = none → exec .status s = .next { s with port := reply 5 false 0 }) ∧
       (∀ d, x.served = some d →
         exec .status s = .next { s with port := { reply 5 true d with serial := none } }) ∧
       (∀ a w, exec (.memRead a true) s = .next { s with port := reply 1 false 0 } ∧
         exec (.memWrite a w true) s = .next { s with port := reply 2 false 0 } ∧
         exec (.regRead a) s = .next { s with port := reply 3 false 0 } ∧
         exec (.regWrite a w) s = .next { s with port := reply 4 false 0 }) ∧
       (∀ c w, c.post? = some w → exec c s = .next { s with port := reply 4 false 0 })) ∧
     (∀ c, serialCommand c = false →
       exec (.serialUnknownCommand c) s = .next { s with port := reply c false 0 })) ∧
  (∀ (s : State) (a : Word) (clocks : Nat), s.on = true → s.port.mode = .serial → clocks < 40 →
     (s.port.serial ≠ none → ∀ c, exec (.serialFrameCut c a clocks true) s = .next s) ∧
     (∀ c, c ≠ 1 → c ≠ 3 → exec (.serialFrameCut c a clocks true) s = .next s) ∧
     (clocks < 23 → exec (.serialFrameCut 1 a clocks true) s = .next s) ∧
     (clocks < 24 → exec (.serialFrameCut 3 a clocks true) s = .next s) ∧
     (s.port.serial = none → 24 ≤ clocks →
       exec (.serialFrameCut 3 3 clocks true) s = .next s.attentionTake) ∧
     (s.port.serial = none → 23 ≤ clocks → a.toNat < 0x4000 →
       exec (.serialFrameCut 1 a clocks true) s = .next
         (if s.covered (a.toNat / 2 * 2) then { s with port.serial := some ⟨a.toNat / 2 * 2, none, none⟩ }
           else s))) ∧
  (∀ (command : Byte) (addr data : Word) (during : Bool) (clocks : Nat) (s : State),
     let frame : BitVec 40 := command ++ addr ++ data
     let spelt : Instr :=
       if clocks < 40 then .serialFrameCut command addr clocks during
       else if command = 1 then .memRead addr during
       else if command = 2 then .memWrite addr data during
       else if command = 3 then .regRead addr
       else if command = 4 then .regWrite addr data
       else if command = 5 then .status
       else .serialUnknownCommand command
     serialBits frame clocks during = spelt ∧
       s.clockIn frame clocks during = { s with pending := s.pending ++ [spelt] } ∧
       (s.pending = [] → step (s.clockIn frame clocks during) = exec spelt s)) ∧
  (∀ (c : Instr) (frame : BitVec 40), c.wellFormed = true → c.frame? = some frame →
     ∃ during, serialBits frame 40 during = c)

/-- R196, R198: register frames with no access pending. A read returns the register's word, and one of
ATTENTION takes its cause; a write acts as one of the parallel port does, and to a number of 5 or above it has
no effect. R196: the words that IDENT by its selector, POST, CLAIM and LEVEL read as. -/
def Obligations.SerialRegisterFrames : Prop :=
  (∀ (s : State) (a w : Word), s.on = true → s.port.mode = .serial → s.port.serial = none →
    (∃ t, exec (.regRead a) s = .next t ∧
      t.port = { s.port with
        reply := some ⟨s.port.lastCommand, true, s.registerWord a.toNat⟩, lastCommand := 3 } ∧
      t = { s with port := t.port, presenter := t.presenter } ∧
      (a ≠ 3 → t.presenter = s.presenter) ∧ (a = 3 → t.presenter = s.attentionTake.presenter)) ∧
    (5 ≤ a.toNat → s.registerWord a.toNat = 0 ∧ exec (.regWrite a w) s = .next s.through) ∧
    exec (.regWrite 0 w) s = exec (.identWrite w) s ∧ exec (.regWrite 3 w) s = exec (.attentionWrite w) s ∧
    exec (.regWrite 4 w) s = exec (.levelWrite w) s ∧ exec (.regWrite 2 w) s = exec (.claimTake w) s ∧
    exec (.regWrite 1 w) s = .next (s.through.post w)) ∧
  (∀ (s : State),
    (s.port.selector = false → s.registerWord 0 = 0x0420) ∧
    (s.port.selector = true → (s.registerWord 0).toNat
      = 0x01 + 256 * (if s.port.mode = .serial then 1 else 0)
        + 512 * (match s.power.startKind with | .cold => 0 | .warm => 1 | .line => 2)
        + 2048 * (if s.power.lostLatch then 1 else 0)) ∧
    s.registerWord 1 = s.port.postEcho ∧
    (∀ i, (s.registerWord 2).getLsbD i = (match i with
      | 0 => s.claims.host.programs | 1 => s.claims.host.presets | 2 => s.claims.host.settings
      | 4 => s.claims.engine.programs | 5 => s.claims.engine.presets | 6 => s.claims.engine.settings
      | _ => false)) ∧
    (s.registerWord 4).toNat = s.presenter.cl.toNat)

/-- R196, R200: the writes of IDENT, LEVEL and ATTENTION through either port, and the writes that are ignored.
Everything that is not named stays. R199, R200: the throttle timer runs out; a STATUS gate's second runs out,
which opens the gate, or raises the cause it deferred and closes the gate again. -/
def Obligations.RegisterWritesAndTimers : Prop :=
  (∀ (s : State) (w : Word), s.takesWrites = true →
     exec (.identWrite 0) s = .next { s.through with port.selector := false } ∧
     exec (.identWrite 1) s = .next { s.through with port.selector := true } ∧
     (1 < w.toNat → exec (.identWrite w) s = .next s.through) ∧
     exec (.levelWrite w) s = .next { s.through with presenter.cl := w.setWidth 4 } ∧
     exec (.attentionWrite w) s = .next { s.through with
       presenter.cl := w.setWidth 4
       presenter.throttle := if s.presenter.interval = 0 then none
         else some (s.timeBase + Config.msCycles s.presenter.interval) } ∧
     (∀ r : BitVec 3, 5 ≤ r.toNat → exec (.registerWriteOther r false w) s = .next s.through) ∧
     (∀ r : BitVec 3, exec (.registerWriteOther r true w) s = .next s)) ∧
  (∀ (s : State) (g : Fin 7), s.on = true →
     exec .throttleExpiry s = .next { s with presenter.throttle := none } ∧
     (s.presenter.gates[g] = .opened → exec (.statusGateExpiry g) s = .next s) ∧
     (∀ e, s.presenter.gates[g] = .closed e false →
       exec (.statusGateExpiry g) s
         = .next { s with presenter.gates := s.presenter.gates.set g .opened }) ∧
     (∀ e, s.presenter.gates[g] = .closed e true →
       ∃ t, exec (.statusGateExpiry g) s = .next t ∧ t = { s with presenter := t.presenter } ∧
         ⟨.status, g.val⟩ ∈ t.presenter.pending ∧
         t.presenter.gates[g] = .closed (s.timeBase + Config.hz) false))

/-- R200: a read of ATTENTION through either port takes the most favoured presentable cause: the old CL, the
kind and the detail are returned, the cause leaves the set and CL becomes its level. With none presentable the
old CL is returned and nothing changes. The attention line is asserted exactly while the part is on, the throttle
timer has run out and a pending cause has a level below CL. R201: an indicator line is lit as its source says, and
dark while the part is off. -/
def Obligations.AttentionRead : Prop :=
  (∀ s : State, s.on = true → s.port.serial = none →
    ∃ t, exec .attentionRead s = .next t ∧ t = { s with port := t.port, presenter := t.presenter } ∧
      (s.port.mode = .parallel → t.port = { s.port with dataOut := some s.attentionWord }) ∧
      (s.port.mode = .serial → t.port = { s.port with
        reply := some ⟨s.port.lastCommand, true, s.attentionWord⟩, lastCommand := 3 }) ∧
      ((∀ c ∈ s.presenter.pending, s.presenter.cl.toNat ≤ c.kind.level) →
        s.attentionWord = s.presenter.cl.setWidth 16 ∧ t.presenter = s.presenter) ∧
      ((∃ c ∈ s.presenter.pending, c.kind.level < s.presenter.cl.toNat) →
        ∃ c, s.presenter.favoured = some c) ∧
      (∀ c, s.presenter.favoured = some c →
        s.attentionWord = BitVec.ofNat 16 (s.presenter.cl.toNat + 16 * c.kind.code + 256 * c.detail) ∧
        c ∈ s.presenter.pending ∧ c.kind.level < s.presenter.cl.toNat ∧ c ∉ t.presenter.pending ∧
        (∀ d ∈ s.presenter.pending, d ≠ c → d ∈ t.presenter.pending) ∧
        t.presenter.cl = BitVec.ofNat 4 c.kind.level)) ∧
  (∀ s : State, s.attentionLine = true ↔ s.on = true ∧ s.presenter.throttle = none ∧
    ∃ c ∈ s.presenter.pending, c.kind.level < s.presenter.cl.toNat) ∧
  (∀ (s : State) (line : Fin 4), (s.on = false → s.lampLit line = false) ∧
    (s.on = true →
      let phase := s.timeBase % 32768
      let timer := ∃ n : Fin 16, (s.entry n).owned.state = .armed ∨ (s.entry n).owned.state ∈
        [EntryState.preroll, .pending, .waitingLabel, .recording, .labelPaused, .interrupted]
      (s.lampLit line = true ↔ match s.lamps[line] with
        | .off => False
        | .on => True
        | .recording => s.transport.mode = .recording ∨ (s.transport.mode = .recordPause ∧ phase ≤ 16383)
        | .timerArmed => timer
        | .timerNoTape => timer ∧ (s.transport.mode = .empty ∨ s.sensors.tabPresent = false) ∧
            (phase ≤ 8191 ∨ (16384 ≤ phase ∧ phase ≤ 24575))
        | .cassette => s.transport.mode ≠ .empty
        | .locked => s.servo.drum = .phaseLocked ∧ s.servo.cap = .phase
        | .label => s.decoder.lost = false ∧ ∃ l, s.decoder.current = some l ∧ l.status = .running
        | .clockUnset => s.clock.state = .unset ∧ phase ≤ 16383
        | .fault => s.transport.fault ≠ .none
        | .powerActive => s.power.state = .active)))

/-- R199: the pending set is kept in order of favour, so the cause that a read takes is the one of lowest
level and, among causes of one level, of lowest detail; and it never holds a pair twice. -/
def Obligations.RaisingKeepsTheOrderOfFavour : Prop :=
  ∀ (s : State) (k : CauseKind) (d : Nat),
    s.presenter.pending.Pairwise (fun x y => x.before y = true) →
      (s.raise k d).presenter.pending.Pairwise (fun x y => x.before y = true) ∧
      (∀ c, c ∈ (s.raise k d).presenter.pending ↔ c = ⟨k, d⟩ ∨ c ∈ s.presenter.pending) ∧
      (∀ c, s.presenter.favoured = some c → ∀ e ∈ s.presenter.pending,
        e.kind.level < s.presenter.cl.toNat → e = c ∨ c.before e = true)

/-- R191: a TAKE sets the host hold of its section unless the engine holds it; the claims' other holds and
everything else stay. A word that names no section is ignored. R192: a GIVE of a section whose host hold is set
clears the hold, and the part reads the section: PROGRAMS by the validation, PRESETS by the tuner's re-read,
SETTINGS by every reader. R84: at the re-read a selected preset no longer in use leaves the selection at its
divisor, and in VIEW one whose fields are not the tuned ones is tuned (that the preset's number is compared too is
the model's choice, log 27). Where the hold is clear, and for a word that
names no section, it is ignored. -/
def Obligations.ClaimWrites : Prop :=
  (∀ (s : State) (w : Word), s.takesWrites = true → claimAction w = 1 →
     (w.toNat % 4 = 0 → exec (.claimTake w) s = .next s.through) ∧
     (∀ x, sectionOf w = some x → s.claims.engine.get x = true → exec (.claimTake w) s = .next s.through) ∧
     (∀ x, sectionOf w = some x → s.claims.engine.get x = false →
       exec (.claimTake w) s
         = .next { s.through with claims.host := s.claims.host.put x true })) ∧
  (∀ (s : State) (w : Word), s.takesWrites = true → claimAction w = 2 →
     (w.toNat % 4 = 0 → exec (.claimGive w) s = .next s.through) ∧
     (∀ x, sectionOf w = some x → s.claims.host.get x = false → exec (.claimGive w) s = .next s.through) ∧
     (∀ x, sectionOf w = some x → s.claims.host.get x = true →
       let o := s.through.afterWrites
       let y := ({ o with claims.host := o.claims.host.put x false }).readSection x
       exec (.claimGive w) s = .next (State.finish o y) ∧
         (x = .programs → (∀ n, o.run n = none) →
           y.claims.host.programs = false ∧ ∀ n, (y.entry n).copy = o.progCfg n) ∧
         (x = .presets → o.tuner.owner ≠ .view →
           y.claims.host.presets = false ∧ y.tuner.base = o.tuner.base) ∧
         (x = .presets → ∀ p, o.tuner.selection = .preset p →
           let q := o.preset p
           let tuned : TunedBase := ⟨q.divisor, q.fine, p, q.aft⟩
           (q.inUse = false → y.tuner.base = o.tuner.base ∧ y.tuner.selection = .direct
             (match o.tuner.base with
               | some b => b.divisor
               | none => divisorClamp o.tuner.lastDivisor)) ∧
           (q.inUse = true → o.tuner.owner = .view → y.tuner.selection = .preset p ∧
             (o.tuner.base = some tuned → y.tuner.base = o.tuner.base ∧ y.tuner.signal = o.tuner.signal) ∧
             (o.tuner.base ≠ some tuned → y.tuner.base = some tuned ∧ y.tuner.correction = 0 ∧
               y.tuner.signal = .acquiring ∧ y.tuner.aft = (if q.aft then .running else .off) ∧
               y.tuner.lockLimit = some (o.timeBase + Config.lockLimit)))) ∧
         (x = .settings → y.claims.host.settings = false ∧
           y.servo.defaultSpeed = o.settings.speed ∧ y.lamps = o.settings.lamps ∧
           y.presenter.interval = o.settings.interval ∧ y.clock.autoSet = o.settings.autoSet ∧
           y.clock.seekHour = o.settings.seekHour ∧ y.clock.timePreset = o.settings.timePreset ∧
           y.remaining.mInUse = o.settings.length)))

/-! ### Requests -/

/-- R184: a write to POST, through either port, by any request row. The POST is ignored with cause PORT where
the number is above 15, the slot does not read POSTED or its request is still in flight; otherwise the slot's
kind and its 12 argument bytes are copied into its record and the request is passed on by its kind (R185). -/
def Obligations.PostsTakeTheirSlot : Prop :=
  ∀ (c : Instr) (w : Word) (s : State), c.post? = some w → s.takesWrites = true →
    let o := s.posted w
    ((∀ n : Fin 16, n.val = w.toNat →
        o.byteNat (Config.slotBase n.val) ≠ 1 ∨ o.requests.slots[n].isSome = true) →
      exec c s = .next (State.finishPost w o (o.raise .port (min 255 w.toNat)))) ∧
    (∀ n : Fin 16, n.val = w.toNat → o.byteNat (Config.slotBase n.val) = 1 →
      o.requests.slots[n] = none →
      let r : Request :=
        { kind := o.byteNat (Config.slotBase n.val + 1), args := o.bytes (Config.slotBase n.val + 2) 12 }
      exec c s = .next (State.finishPost w o
        (({ o with requests.slots := o.requests.slots.set n (some r) } : State).dispatch n r)))

/-- R186: a request ends by one slot-finish record write, with the state FINISHED, the kind and arguments as
copied, the outcome, the reason and the results filled with 0; the slot's record becomes idle, its lane is
empty and the presenter receives cause REQUEST with the slot number. -/
def Obligations.ARequestEndsInItsSlot : Prop :=
  ∀ (s : State) (n : Fin 16) (r : Request) (o : ReqOutcome) (why : Reason) (results : List Byte),
    s.requests.slots[n] = some r → r.args.length = 12 → results.length ≤ 12 →
    let t := s.finishSlot n o why results
    t.scratch.writes = (Config.slotBase n.val,
      [3, BitVec.ofNat 8 r.kind] ++ r.args ++ [BitVec.ofNat 8 o.code, BitVec.ofNat 8 why.code] ++ results
        ++ zeros (12 - results.length)) :: s.scratch.writes ∧
    t.requests.slots[n] = none ∧ t.requests.transportLane ≠ some n ∧ t.requests.tunerLane ≠ some n ∧
    (∀ m, m ≠ n → t.requests.slots[m] = s.requests.slots[m]) ∧
    ⟨.request, n.val⟩ ∈ t.presenter.pending ∧
    t = { s with
      scratch := t.scratch, requests := t.requests, presenter.pending := t.presenter.pending }

/-- R5: the checks of a transport request, in their order, with the reason of the first that applies. What
leads the cam upward from HOUSED, and what waits of a housing move, is the model's reading (log 25). R16: the
record tab counts as absent in EMPTY. -/
def Obligations.TransportChecksInOrder : Prop :=
  ∀ (s : State) (k : TransportKind) (r : Request),
    s.checkTransport k r = (([
      (s.transport.control.isSome && k != .stop, Reason.timerActive),
      (s.transport.mode == .faultHold && k != .eject, .faultHold),
      (s.transport.owner == .manual && k != .stop && k != .pause && k != .eject, .recording),
      (s.transport.mode == .empty && !s.housing && k != .stop && k != .eject, .noCassette),
      ((k == .record && decide (3 < r.byte 0)) || (k == .wind && decide (1 < r.byte 0)), .badArgument),
      (k == .record && !(s.sensors.tabPresent && s.transport.mode != .empty), .writeProtect),
      (s.sensors.dew && s.leadsUp k r && s.startsLow, .dew),
      (s.sensors.endActive && (k == .play || k == .record || k == .cue || (k == .wind && r.byte 0 == 0)
        || (k == .pause && (s.transport.mode == .still || s.transport.mode == .recordPause))), .atEnd),
      (s.sensors.startActive && (k == .review || (k == .wind && r.byte 0 == 1)), .atStart),
      (k == .record && s.tuner.owner == .scan, .tunerHeld)] : List (Bool × Reason)).find? (·.1)).map (·.2)

/-- R5, R59, R185: a request that a check refuses finishes REFUSED with the reason at once, and the request in
flight, the path and the rest of the part stay; so does one whose kind names no request. -/
def Obligations.RefusedRequestsChangeNothing : Prop :=
  ∀ (c : Instr) (w : Word) (s : State) (n : Fin 16) (r : Request) (why : Reason),
    c.post? = some w → s.serves w n r →
    let o := s.taken w n r
    let refused := exec c s = .next (State.finishPost w (s.posted w) (o.finishSlot n .refused why []))
    (∀ k : TransportKind, r.kind = k.code → o.checkTransport k r = some why → refused) ∧
    (r.kind = 8 → o.checkTransport .locate r = none → o.checkLocate r = some why → refused) ∧
    (r.kind = 13 → setClockOk r = false → why = .badArgument → refused) ∧
    (r.kind = 15 ∨ r.kind = 16 → 1 < r.byte 0 → why = .badArgument → refused) ∧
    (r.kind = 0 ∨ 17 < r.kind → why = .badKind → refused)

/-- R189: the checks of a BLOCK_RESET, in their order; the first that applies refuses the whole request, and no
member is reset. -/
def Obligations.BlockResetChecks : Prop :=
  ∀ (s : State) (n : Fin 16) (r : Request),
    s.checkReset r = (([
      (!r.names 0 && !r.names 1 && !r.names 2 && !r.names 3 && !r.names 4, Reason.badArgument),
      (r.names 0 && s.transport.control.isSome, .timerActive),
      (r.names 0 && s.transport.owner == .manual, .recording),
      (r.names 1 && s.tuner.owner == .record, .recording)] : List (Bool × Reason)).find? (·.1)).map (·.2) ∧
    (∀ why, s.checkReset r = some why → s.blockReset n r = s.finishSlot n .refused why []) ∧
    (∀ (c : Instr) (w : Word) (s₀ : State), c.post? = some w → s₀.serves w n r → r.kind = 17 →
      s = s₀.taken w n r → exec c s₀ = .next (State.finishPost w (s₀.posted w) (s.blockReset n r)))

/-- R6, R7, R168 to R170: PLAY, RECORD, PAUSE, CUE, REVIEW, WIND and EJECT that pass their checks in LOADED at
rest, in QUIET (that the default speed of a RECORD is resolved as it is taken is the model's choice, log 48): the
request is in flight on the TRANSPORT lane with its path at the cam, which waits for the
mechanism supply; the part becomes ACTIVE with wake reason TRANSPORT_REQUEST and the supply settles. R3, R4, R6:
the same requests in LOADED at rest with the mechanism supply READY: the first cam move begins at once, up to
HALF in THREADING (for EJECT down to EJECT in EJECTING), under its limit of 2.5 s. -/
def Obligations.RequestsInLoadedBegin : Prop :=
  (∀ (c : Instr) (w : Word) (s : State) (n : Fin 16) (r : Request) (k : TransportKind) (goal : Goal),
     c.post? = some w → s.serves w n r → r.kind = k.code →
     (k, goal) ∈ [(TransportKind.play, Goal.play),
       (.record, .record (s.recordSpeed r) (min 480 (r.word 2))), (.pause, .still), (.cue, .search .forward),
       (.review, .search .reverse), (.wind, .wind (windDir r)), (.eject, .eject)] →
     (s.taken w n r).checkTransport k r = none → s.still = true → s.servo.drum = .off →
     s.transport.mode = .loaded → s.sensors.cam = .at .housed → s.transport.control = none →
     s.requests.transportLane = none → s.power.state = .quiet → s.power.supply = .off →
     s.power.followsNeeds = true →
     ∃ t, exec c s = .next t ∧
       t.requests.transportLane = some n ∧ t.requests.slots[n] = some r ∧
       t.transport.path = some ⟨goal, .cam, false, false⟩ ∧ t.transport.camMove = none ∧
       t.transport.mode = .loaded ∧ t.sensors = s.sensors ∧ t.power.state = .active ∧
       t.power.wake = .transportRequest ∧ t.power.supply = .settling ∧
       t.power.settle = some (s.timeBase + Config.settle) ∧ t.tuner.signal ≠ .unpowered ∧
       t.position.counter = s.position.counter ∧ t.position.map = s.position.map) ∧
  (∀ (c : Instr) (w : Word) (s : State) (n : Fin 16) (r : Request) (k : TransportKind) (goal : Goal),
     c.post? = some w → s.serves w n r → r.kind = k.code →
     (k, goal) ∈ [(TransportKind.play, Goal.play),
       (.record, .record (s.recordSpeed r) (min 480 (r.word 2))), (.pause, .still), (.cue, .search .forward),
       (.review, .search .reverse), (.wind, .wind (windDir r)), (.eject, .eject)] →
     (s.taken w n r).checkTransport k r = none → s.still = true → s.servo.drum = .off →
     s.transport.mode = .loaded → s.sensors.cam = .at .housed → s.transport.control = none →
     s.requests.transportLane = none → s.power.state = .active → s.power.supply = .ready →
     ∃ t, exec c s = .next t ∧
       t.requests.transportLane = some n ∧ t.transport.path = some ⟨goal, .cam, false, false⟩ ∧
       t.power.state = .active ∧ t.power.supply = .ready ∧
       (if k = .eject then
         t.transport.mode = .ejecting ∧ t.sensors.cam = .between .eject ∧
           t.transport.camMove = some ⟨.eject, false, s.timeBase + Config.camLimit⟩
       else
         t.transport.mode = .threading ∧ t.sensors.cam = .between .housed ∧
           t.transport.camMove = some ⟨.half, true, s.timeBase + Config.camLimit⟩))

/-- R10, R14: STOP in EMPTY or LOADED at rest and EJECT in EMPTY at rest finish DONE at once; the mode, the cam and
the motors stay. R7 to R14: a request that passes its checks, by the mode it is taken in (of a PAUSE in EMPTY the
model's choice, log 74; that a RECORD's default speed is resolved as it is taken, log 48): it takes the lane, an
older request finishes SUPERSEDED, and its path replaces the old one. With a cam move under way the move goes on and
the path waits for it; at its arrival the mode is the one of the position, and the path starts from there. With
none, the motion under way is kept where the target shares it, and is else stopped, within 2.0 s (a stop under way
is waited out: the model's choice, log 58); a recording left for a target off DRIVE ends (log 12). R13: a WIND in
the direction under way finishes DONE at once. R8, R11, R12: with the cam at DRIVE and the drum ready (log 77) the
capstan is started toward the new target in that event, STILL and RECORD_PAUSE being entered there (log 11); PLAY in
PLAYING, CUE in CUE and REVIEW in REVIEW finish DONE at once, be the capstan relocking meanwhile (the model's
choice, log 84). R23: taken in STOPPED, each of them starts the idle time afresh where it runs (log 30). -/
def Obligations.RequestsTakeTheTransport : Prop :=
  (∀ (c : Instr) (w : Word) (s : State) (n : Fin 16) (r : Request), c.post? = some w → s.serves w n r →
     s.still = true → s.transport.control = none → s.requests.transportLane = none →
     (r.kind = 3 ∧ (s.transport.mode = .empty ∨ s.transport.mode = .loaded)) ∨
       (r.kind = 9 ∧ s.transport.mode = .empty) →
     ∃ x, exec c s = .next (State.finishPost w (s.posted w) x) ∧
       x.scratch.writes = [(Config.slotBase n.val, finishBytes r .done .none [])] ∧
       x.requests.transportLane = none ∧ x.requests.slots[n] = none ∧
       ⟨.request, n.val⟩ ∈ x.presenter.pending ∧ x.transport.mode = s.transport.mode ∧
       x.transport.path = none ∧ x.transport.camMove = none ∧ x.sensors = s.sensors ∧ x.servo = s.servo ∧
       x.scratch.notes = []) ∧
  (∀ (c : Instr) (w : Word) (s : State) (n : Fin 16) (r : Request) (k : TransportKind) (goal : Goal),
     c.post? = some w → s.serves w n r → r.kind = k.code → (s.taken w n r).checkTransport k r = none →
     (∀ m, s.requests.transportLane = some m → m ≠ n) →
     let mode := s.transport.mode
     (k = .play ∧ goal = .play) ∨ (k = .record ∧ goal = .record (s.recordSpeed r) (min 480 (r.word 2))) ∨
       (k = .stop ∧ mode ∉ [Mode.empty, .loaded, .faultHold] ∧
         goal = .stop (decide (mode = .unthreading ∨ mode = .ejecting))) ∨
       (k = .pause ∧ goal = (if mode = .still then .play else if mode = .recording then .recPause
         else if mode = .recordPause then .resume else .still)) ∨
       (k = .cue ∧ goal = .search .forward) ∨ (k = .review ∧ goal = .search .reverse) ∨
       (k = .wind ∧ s.winding (windDir r) = false ∧ goal = .wind (windDir r)) ∨
       (k = .eject ∧ (mode = .empty → s.transport.camMove ≠ none) ∧ goal = .eject) →
     let takes := fun (x : State) => x.requests.transportLane = some n ∧ x.requests.slots[n] = some r ∧
       x.position.locate = none ∧ x.transport.camMove = s.transport.camMove ∧ x.sensors = s.sensors ∧
       (∀ m q, s.requests.transportLane = some m → s.requests.slots[m] = some q →
         (Config.slotBase m.val, finishBytes q .superseded .none []) ∈ x.scratch.writes ∧
         x.requests.slots[m] = none ∧ ⟨.request, m.val⟩ ∈ x.presenter.pending) ∧
       (mode = .stopped → s.transport.idle.isSome = true →
         x.transport.idle = some (s.timeBase + Config.idleLimit))
     let shared := match goal with
       | .wind .forward => s.servo.reel = .forward
       | .wind .reverse => s.servo.reel = .reverse
       | .stop _ | .eject => False
       | _ => s.servo.reel = .off
     let off := match goal with
       | .wind _ | .stop _ | .eject => true
       | _ => false
     ∃ x, exec c s = .next (State.finishPost w (s.posted w) x) ∧ takes x ∧
       (s.transport.camMove ≠ none →
         x.transport.path = some ⟨goal, .waitMove, false, false⟩ ∧ x.transport.mode = mode ∧ x.servo = s.servo) ∧
       (s.transport.camMove = none → ∃ stage,
         x.transport.path = some ⟨goal, stage, s.housingWaits, false⟩ ∧
         x.transport.mode = (if (mode = .recording ∨ mode = .recordPause) ∧ off = true then .stopped else mode) ∧
         (s.transport.stopLimit ≠ none → stage = .stopping ∧ x.transport.stopLimit = s.transport.stopLimit) ∧
         (s.transport.stopLimit = none → shared → stage = .cam ∧ x.servo.cap = s.servo.cap ∧
           x.servo.capTarget = s.servo.capTarget ∧ x.servo.reel = s.servo.reel ∧
           x.servo.drum = if off then .off else s.servo.drum) ∧
         (s.transport.stopLimit = none → ¬shared →
           x.servo.cap = .off ∧ x.servo.reel = .off ∧
           (s.servo.moving = true → stage = .stopping ∧ x.servo.drum = s.servo.drum ∧
             x.transport.stopLimit = some (s.timeBase + Config.stopMotionLimit)) ∧
           (s.servo.moving = false → stage = .cam ∧
             x.servo.drum = if off then .off else s.servo.drum)))) ∧
  (∀ (c : Instr) (w : Word) (s : State) (n : Fin 16) (r : Request), c.post? = some w → s.serves w n r →
     r.kind = 7 → (s.taken w n r).checkTransport .wind r = none → s.winding (windDir r) = true →
     (∀ m, s.requests.transportLane = some m → m ≠ n) →
     ∃ x, exec c s = .next (State.finishPost w (s.posted w) x) ∧ x.requests.transportLane = none ∧
       x.requests.slots[n] = none ∧ (Config.slotBase n.val, finishBytes r .done .none []) ∈ x.scratch.writes ∧
       x.transport.path = none ∧ x.transport.mode = s.transport.mode ∧ x.servo = s.servo ∧
       x.sensors = s.sensors) ∧
  (∀ (s : State) (m : CamMove) (q : Path), s.on = true → s.transport.camMove = some m → s.transport.path = some q →
     q.stage = .waitMove → m.target ≠ .eject → (m.target = .housed → m.up = false) →
     s.transport.mode ≠ .faultHold →
     ∃ x, exec (.camMoveArrival m.target) s = .next (State.finish s.afterWrites x) ∧
       x.sensors.cam = .at m.target ∧ x.transport.camMove = none ∧ x.transport.path = some q ∧
       x.transport.mode = (if m.target = .housed then .loaded else .stopped) ∧ x.requests = s.requests ∧
       x.pathStep = some (x.startStages q)) ∧
  (∀ (c : Instr) (w : Word) (s : State) (n : Fin 16) (r : Request) (k : TransportKind) (goal : Goal)
     (target : CapTarget) (after : Mode), c.post? = some w → s.serves w n r → r.kind = k.code →
     (s.taken w n r).checkTransport k r = none → s.requests.transportLane = none →
     let mode := s.transport.mode
     (k, mode, goal, target, after) ∈ [(TransportKind.play, mode, Goal.play, CapTarget.play, mode),
       (.cue, mode, .search .forward, .search .forward, mode),
       (.review, mode, .search .reverse, .search .reverse, mode),
       (.pause, .still, .play, .play, .still), (.pause, .recordPause, .resume, .record s.servo.recSpeed, .recordPause),
       (.pause, .recording, .recPause, .hold, .recordPause), (.pause, .playing, .still, .hold, .still),
       (.pause, .cue, .still, .hold, .still), (.pause, .review, .still, .hold, .still)] →
     mode ∈ [Mode.playing, .cue, .review, .still, .recording, .recordPause] →
     s.sensors.cam = .at .drive → s.transport.camMove = none → s.transport.path = none →
     s.transport.stopLimit = none → s.transport.control = none → s.servo.reel = .off → s.servo.drum ≠ .off →
     s.servo.driveReady = true → s.power.state = .active → s.power.supply = .ready →
     ∃ x, exec c s = .next (State.finishPost w (s.posted w) x) ∧
       let t := State.settleEvent (s.posted w) x
       (s.servo.capTarget ≠ target →
         t.requests.transportLane = some n ∧ t.transport.path = some ⟨goal, .driving, false, false⟩ ∧
         t.servo.capTarget = target ∧ t.servo.capReached = false ∧ t.transport.mode = after ∧
         t.transport.pinch = true ∧ t.sensors = s.sensors ∧ t.servo.drum = s.servo.drum) ∧
       (s.servo.capTarget = target → s.servo.capReached = true →
         (k, mode) ∈ [(TransportKind.play, Mode.playing), (.cue, .cue), (.review, .review)] →
         t.requests.transportLane = none ∧ t.requests.slots[n] = none ∧ t.transport.path = none ∧
         t.transport.mode = mode ∧ t.servo.capTarget = target ∧
         (Config.slotBase n.val, finishBytes r .done .none []) ∈ t.scratch.writes))

/-- R23, R59 to R63: a LOCATE that passes its checks, taken outside RECORDING and RECORD_PAUSE, to a counter value or to the
position of a map entry: within 5 frames it arrives at once and finishes DONE with the counter, 0 marks and the then-play
flag, and goes on to play or to STOP's rest; within 750 frames its first leg is the search, and from farther off a wind in
the target's direction. R62: to a number of marks, its first leg is the wind in the direction of their sign, with no target
position yet. It takes the lane of an older request, and in STOPPED starts the idle time afresh (log 30).
R60: on a wind leg each pulse tests the distance; within 750 frames, or with the target overrun, the search leg begins, from
the reels' stop or after the cam move under way. A reel lock alone ends nothing. R61: on a search leg each pulse drives the
capstan toward the target at the search speed, turning it round where the target has been overrun, CUE and REVIEW being
entered at the lock; within 5 frames of the target it arrives. R48, R60: the pulses that test. R62: an accepted mark in the
wind's direction whose run began after the LOCATE counts; the last one wanted gives the target, its lowest count. R63: the
end or start sensor on a leg toward it fails the LOCATE, AT_END or AT_START (before the search leg's capstan runs its direction
is that of the distance: the model's choice, log 60). -/
def Obligations.LocateChoosesItsFirstLeg : Prop :=
  (∀ (c : Instr) (w : Word) (s : State) (n : Fin 16) (r : Request), c.post? = some w → s.serves w n r →
    r.kind = 8 → (∀ m, s.requests.transportLane = some m → m ≠ n) →
    s.transport.mode ≠ .recording → s.transport.mode ≠ .recordPause →
    (s.taken w n r).checkTransport .locate r = none → (s.taken w n r).checkLocate r = none →
    let takes := fun (x : State) =>
      (∀ m q, s.requests.transportLane = some m → s.requests.slots[m] = some q →
        (Config.slotBase m.val, finishBytes q .superseded .none []) ∈ x.scratch.writes ∧
          x.requests.slots[m] = none ∧ ⟨.request, m.val⟩ ∈ x.presenter.pending) ∧
      (s.transport.mode = .stopped → s.transport.idle.isSome = true →
        x.transport.idle = some (s.timeBase + Config.idleLimit))
    let waits := fun (x : State) (goal : Goal) =>
      x.requests.transportLane = some n ∧ x.requests.slots[n] = some r ∧
        ∃ stage hf, x.transport.path = some ⟨goal, stage, hf, false⟩ ∧
          (s.still = true → stage = .cam ∧ hf = false)
    (∀ target kind,
      (r.byte 0 = 0 ∧ kind = .counter ∧ target = counterClamp (r.long 4)) ∨
        (r.byte 0 = 1 ∧ kind = .map ∧ ∃ e, s.position.map[(r.long 4).toNat]? = some e ∧ target = e.position) →
      let d := target - s.position.counter
      let dir : Dir := if d < 0 then .reverse else .forward
      ∃ x, exec c s = .next (State.finishPost w (s.posted w) x) ∧ takes x ∧
        (5 < d.natAbs → ∃ leg, x.position.locate = some ⟨kind, some target, 0, 0, leg, r.byte 1 != 0⟩ ∧
          (d.natAbs ≤ 750 → leg = .search ∧ waits x .locateSearch) ∧
          (750 < d.natAbs → leg = .wind dir ∧ waits x (.wind dir))) ∧
        (d.natAbs ≤ 5 → x.position.locate = none ∧ x.requests.transportLane = none ∧
          (Config.slotBase n.val, finishBytes r .done .none
            (locateResults s.position.counter 0 (r.byte 1 != 0))) ∈ x.scratch.writes ∧
          (r.byte 1 ≠ 0 → ∃ stage hf, x.transport.path = some ⟨.play, stage, hf, false⟩ ∧
            (s.still = true → stage = .cam ∧ hf = false)) ∧
          (r.byte 1 = 0 → s.transport.mode = .loaded → s.still = true → x.transport.path = none) ∧
          (r.byte 1 = 0 → s.transport.mode ∈
              [Mode.threading, .stopped, .still, .playing, .cue, .review, .windFwd, .windRev] →
            ∃ stage hf, x.transport.path = some ⟨.stop false, stage, hf, false⟩))) ∧
    (r.byte 0 = 2 →
      let dir : Dir := if r.long 4 < 0 then .reverse else .forward
      ∃ x, exec c s = .next (State.finishPost w (s.posted w) x) ∧ takes x ∧ waits x (.wind dir) ∧
        x.position.locate = some ⟨.marks, none, (r.long 4).natAbs, 0, .wind dir, r.byte 1 != 0⟩)) ∧
  (∀ (s : State) (l : Locate) (dir : Dir), s.position.locate = some l → l.leg = .wind dir →
    let y := s.locateTest
    (l.target = none → y = s) ∧
    (∀ t, l.target = some t →
      let d := t - s.position.counter
      let ends := d.natAbs ≤ 750 ∨ (dir = .forward ∧ d < 0) ∨ (dir = .reverse ∧ 0 < d)
      (¬ends → y = s) ∧
      (ends → ∃ stage hf, y.position = { s.position with locate := some { l with leg := .search } } ∧
        y.transport.path = some ⟨.locateSearch, stage, hf, false⟩ ∧ y.requests = s.requests ∧
        (s.transport.camMove ≠ none → stage = .waitMove ∧ y.servo = s.servo) ∧
        (s.transport.camMove = none → s.transport.stopLimit = none → s.servo.reel ≠ .off →
          stage = .stopping ∧ y.servo.reel = .off ∧ y.servo.cap = .off ∧ y.servo.drum = s.servo.drum ∧
          y.transport.stopLimit = some (s.timeBase + Config.stopMotionLimit))))) ∧
  (∀ (s : State) (d : Dir) (hf o : Bool), s.position.locate.isSome = true →
    s.transport.path = some ⟨.wind d, .driving, hf, o⟩ → s.servo.reelReached = true →
    s.pathStep = some { s with transport.path := none }) ∧
  (∀ (s : State) (l : Locate) (t : Int) (p : Path), s.position.locate = some l → l.leg = .search →
    l.target = some t → s.transport.path = some p →
    s.transport.mode ∈ [Mode.stopped, .still, .cue, .review, .playing] →
    let d := t - s.position.counter
    let dir : Dir := if d < 0 then .reverse else .forward
    let moves := fun (x : State) => x.position = s.position ∧ x.requests = s.requests ∧
      x.transport.path = some ⟨.locateSearch, .driving, p.houseFirst, p.order⟩ ∧
      x.servo.capTarget = .search dir ∧ x.transport.mode = s.transport.mode ∧
      (s.servo.capTarget ≠ .search dir → x.servo.capReached = false)
    let arrives := fun (x : State) => x.position = { s.position with locate := none } ∧
      (∀ n r, s.requests.transportLane = some n → s.requests.slots[n] = some r →
        x.requests.transportLane = none ∧ x.requests.slots[n] = none ∧
          (Config.slotBase n.val, finishBytes r .done .none
            (locateResults s.position.counter l.met l.thenPlay)) ∈ x.scratch.writes) ∧
      (l.thenPlay = true → ∃ stage hf, x.transport.path = some ⟨.play, stage, hf, false⟩) ∧
      (l.thenPlay = false → ∃ stage hf, x.transport.path = some ⟨.stop false, stage, hf, false⟩)
    (p.goal ≠ .locateSearch ∨ p.stage ≠ .driving → s.locateTest = s) ∧
    (p.goal = .locateSearch → p.stage = .driving →
      (5 < d.natAbs → moves s.locateTest ∧ (s.servo.capTarget = .search dir → s.locateTest = s)) ∧
      (d.natAbs ≤ 5 → arrives s.locateTest)) ∧
    (p.goal = .locateSearch → p.stage = .drive → s.power.supply = .ready → s.servo.drum = .phaseLocked →
      ∃ x, s.pathStep = some x ∧ (5 < d.natAbs → moves x ∧ x.transport.pinch = true) ∧
        (d.natAbs ≤ 5 → arrives x)) ∧
    (p.goal = .locateSearch → p.stage = .driving → s.servo.capReached = true →
      ∀ e ∈ [(Dir.forward, Mode.cue), (.reverse, .review)], s.servo.capTarget = .search e.1 →
        (s.transport.mode = e.2 → s.pathStep = none) ∧
        (s.transport.mode ≠ e.2 → ∃ x, s.pathStep = some x ∧ x.transport.mode = e.2 ∧
          x.transport.path = some p ∧ x.position = s.position ∧ x.requests = s.requests))) ∧
  (∀ (s : State) (l : Locate), s.on = true → s.position.locate = some l → s.position.detector = none →
    let keeps := fun y : State => y.transport = { s.transport with stall := y.transport.stall } ∧
      y.requests = s.requests ∧ y.timeBase = s.timeBase ∧ y.position.locate = some l ∧
      y.servo.capTarget = s.servo.capTarget ∧ y.servo.reel = s.servo.reel
    let tests := fun y : State => if y.position.counter = s.position.counter then y else y.locateTest
    (∀ (d : Dir) (altered : Bool) (us : Nat), s.transport.mode ≠ .recording →
      ∃ y, exec (.controlPulse d altered us) s = .next (State.finish s.afterWrites y.locateTest) ∧ keeps y ∧
        y.position.counter = clampInt (-899999) 899999 (s.position.counter + (if d = .forward then 1 else -1))) ∧
    (∀ (d : Dir) (us : Nat), s.countsBlank = true →
      ∃ y, exec (.capstanTachPulse d us) s = .next (State.finish s.afterWrites (tests y)) ∧ keeps y ∧
        y.position = s.position.tachPulse d (s.factor.getD 1)) ∧
    (∀ (us : Nat), ∃ x y : State,
      exec (.reelRotationPulse .takeUp us) s = .next (State.finish s.afterWrites x) ∧ keeps y ∧
        y.position = s.position.takeUpRevolution s.windDirection s.remaining.ku (s.factor.getD 1) ∧
        x.position = (tests y).position ∧ x.transport = (tests y).transport ∧
        x.requests = (tests y).requests ∧ x.servo = (tests y).servo)) ∧
  (∀ (s : State) (l : Locate) (dir d : Dir) (altered : Bool) (us : Nat) (run : MarkRun), s.on = true →
    s.position.locate = some l → l.kind = .marks → l.leg = .wind dir → l.target = none →
    s.position.detector = some run → s.transport.mode ≠ .recording →
    let counts := (altered = false ∨ run.dir ≠ d) ∧ 32 ≤ run.length ∧ run.dir = dir ∧ run.afterLocate = true
    ∃ x, exec (.controlPulse d altered us) s = .next (State.finish s.afterWrites x) ∧ x.requests = s.requests ∧
      (¬counts → x.position.locate = some l ∧ x.transport = s.transport) ∧
      (counts → l.met + 1 < l.wanted →
        x.position.locate = some { l with met := l.met + 1 } ∧ x.transport = s.transport) ∧
      (counts → l.wanted ≤ l.met + 1 →
        x.position.locate = some { l with met := l.met + 1, target := some run.lowest, leg := .search } ∧
        ∃ stage hf, x.transport.path = some ⟨.locateSearch, stage, hf, false⟩ ∧
          (s.transport.camMove = none → s.transport.stopLimit = none → s.servo.reel ≠ .off →
            stage = .stopping ∧ x.servo.reel = .off ∧
              x.transport.stopLimit = some (s.timeBase + Config.stopMotionLimit)))) ∧
  (∀ (s : State) (l : Locate), s.on = true → s.position.locate = some l →
    s.transport.mode ∈ [Mode.loaded, .unthreading, .threading, .stopped, .still, .playing, .cue, .review,
      .windFwd, .windRev] →
    ∀ e ∈ [(Instr.endSensorActive, Dir.forward, Reason.atEnd, 2, s.sensors.endActive),
        (.startSensorActive, .reverse, .atStart, 3, s.sensors.startActive)],
      e.2.2.2.2 = false →
      (l.leg = .wind e.2.1 ∨
        (l.leg = .search ∧ ∃ t, l.target = some t ∧ (e.2.1 = .reverse ↔ t < s.position.counter))) →
      ∃ x, exec e.1 s = .next (State.finish s.afterWrites x) ∧ x.position.locate = none ∧
        x.transport.order = none ∧ ⟨.transport, e.2.2.2.1⟩ ∈ x.presenter.pending ∧
        (∀ n r, s.requests.transportLane = some n → s.requests.slots[n] = some r →
          x.requests.transportLane = none ∧
            (Config.slotBase n.val, finishBytes r .failed e.2.2.1 []) ∈ x.scratch.writes) ∧
        (s.transport.mode ≠ .loaded →
          ∃ stage hf, x.transport.path = some ⟨.stop (decide (s.transport.mode = .unthreading)), stage, hf, false⟩ ∧
            (s.transport.camMove = none → s.transport.stopLimit = none → s.servo.moving = true →
              stage = .stopping ∧ x.servo.cap = .off ∧ x.servo.reel = .off ∧
                x.transport.stopLimit = some (s.timeBase + Config.stopMotionLimit))))

/-- R78, R88, R89: SELECT in ACTIVE, of a preset in use or of a divisor: the owner becomes VIEW, the selection
is set and tuned; the correction is 0, the signal ACQUIRING under the lock limit of 100 ms, the AFT RUNNING if
the preset's flag is set, the label context and the vote window are cleared; the request is in flight. R89, R83:
what SELECT selects: a preset by number, the next or previous preset in use that is not skipped, round the end of the
table, from the lowest or the highest where no preset is selected, or a divisor brought into range; and the reasons it
is refused with; a SELECT so refused, in every power state, ends in its slot with that reason and changes nothing else, but that
in ACTIVE a clock seek has ended. R79, R82, R89: a SELECT in flight finishes DONE with its results, the tuning as it then stands, at the
lock report where no AFT is to run, at the AFT's end, or at the lock limit's expiry before lock; else it waits on. -/
def Obligations.SelectTunesItsTarget : Prop :=
  (∀ (c : Instr) (w : Word) (s : State) (n : Fin 16) (r : Request) (sel : Selection),
     c.post? = some w → s.serves w n r → r.kind = 10 → s.power.state = .active →
     s.tuner.owner ≠ .record → s.tuner.seek = none → (s.taken w n r).selectTarget r = .ok sel →
     let o := s.taken w n r
     let base : TunedBase := match sel with
       | .preset p => ⟨(o.preset p).divisor, (o.preset p).fine, p, (o.preset p).aft⟩
       | .direct d => ⟨d, 0, 0, false⟩
       | .none => ⟨0, 0, 0, false⟩
     ∃ x, exec c s = .next (State.finishPost w (s.posted w) x) ∧
       x.tuner.owner = .view ∧ x.tuner.selection = sel ∧ x.tuner.base = some base ∧ x.tuner.correction = 0 ∧
       x.tuner.readings = 0 ∧ x.tuner.aft = (if base.aft then .running else .off) ∧
       x.tuner.signal = .acquiring ∧ x.tuner.lockLimit = some (s.timeBase + Config.lockLimit) ∧
       x.tuner.band = bandOf (effectiveOf base 0) ∧ x.requests.tunerLane = some n ∧
       x.decoder.current = none ∧ x.decoder.code = 0 ∧ x.decoder.miss = 0 ∧ x.decoder.lost = false ∧
       x.clock.window = [] ∧ x.transport = s.transport ∧ x.servo = s.servo ∧ x.position = s.position) ∧
  (∀ (c : Instr) (w : Word) (s : State) (n : Fin 16) (r : Request) (why : Reason),
     c.post? = some w → s.serves w n r → r.kind = 10 → s.tuner.owner ≠ .record →
     (s.taken w n r).selectTarget r = .error why →
     let o := s.taken w n r
     let left : State := if s.power.state = .active ∧ s.tuner.seek.isSome = true then
         { o with tuner.seek := none, tuner.owner := .none, clock.seek := none }
       else o
     exec c s = .next (State.finishPost w (s.posted w) (left.finishSlot n .refused why [])) ∧
       (left.finishSlot n .refused why []).requests.slots[n] = none ∧
       (Config.slotBase n.val, finishBytes r .refused why []) ∈ (left.finishSlot n .refused why []).scratch.writes ∧
       ⟨.request, n.val⟩ ∈ (left.finishSlot n .refused why []).presenter.pending) ∧
  (∀ (s : State) (r : Request),
     (r.byte 0 = 0 → s.selectTarget r =
       if r.word 2 = 0 ∨ 64 < r.word 2 then .error .badArgument
       else if (s.preset (r.word 2)).inUse then .ok (.preset (r.word 2)) else .error .emptyPreset) ∧
     (r.byte 0 = 3 → s.selectTarget r = .ok (.direct
       (if r.word 2 < 1343 then 1343 else if 14382 < r.word 2 then 14382 else r.word 2))) ∧
     (3 < r.byte 0 → s.selectTarget r = .error .badArgument) ∧
     (∀ p, r.byte 0 = 1 ∨ r.byte 0 = 2 → s.selectTarget r = .ok (.preset p) →
       1 ≤ p ∧ p ≤ 64 ∧ (s.preset p).inUse = true ∧ (s.preset p).skip = false) ∧
     ((r.byte 0 = 1 ∨ r.byte 0 = 2) → (∀ p, 1 ≤ p → p ≤ 64 → s.selectable p = false) →
       s.selectTarget r = .error .emptyPreset) ∧
     (∀ p q, r.byte 0 = 1 → s.tuner.selection = .preset p → p < q → q ≤ 64 → s.selectable q = true →
       (∀ m, p < m → m < q → s.selectable m = false) → s.selectTarget r = .ok (.preset q)) ∧
     (∀ p q, r.byte 0 = 2 → s.tuner.selection = .preset p → 1 ≤ q → q < p → p ≤ 64 →
       s.selectable q = true → (∀ m, q < m → m < p → s.selectable m = false) →
       s.selectTarget r = .ok (.preset q)) ∧
     (∀ q, (∀ p, s.tuner.selection ≠ .preset p) → 1 ≤ q → q ≤ 64 → s.selectable q = true →
       (r.byte 0 = 1 → (∀ m, 1 ≤ m → m < q → s.selectable m = false) → s.selectTarget r = .ok (.preset q)) ∧
       (r.byte 0 = 2 → (∀ m, q < m → m ≤ 64 → s.selectable m = false) → s.selectTarget r = .ok (.preset q))) ∧
     (∀ p q, s.tuner.selection = .preset p → 1 ≤ p → p ≤ 64 → 1 ≤ q → q ≤ 64 → s.selectable q = true →
       (r.byte 0 = 1 → q ≤ p → (∀ m, p < m → m ≤ 64 → s.selectable m = false) →
         (∀ m, 1 ≤ m → m < q → s.selectable m = false) → s.selectTarget r = .ok (.preset q)) ∧
       (r.byte 0 = 2 → p ≤ q → (∀ m, 1 ≤ m → m < p → s.selectable m = false) →
         (∀ m, q < m → m ≤ 64 → s.selectable m = false) → s.selectTarget r = .ok (.preset q)))) ∧
  (∀ (s : State) (n : Fin 16) (r : Request), s.on = true → s.tuner.scan = none → s.tuner.base.isSome = true →
     s.requests.tunerLane = some n → s.requests.slots[n] = some r → r.kind = 10 →
     let leaves := fun (c : Instr) (x : State) => exec c s = .next (State.finish s.afterWrites x) ∧
       x.tuner.selection = s.tuner.selection ∧ x.tuner.base = s.tuner.base ∧ x.tuner.owner = s.tuner.owner ∧
       x.transport = s.transport
     let ended := fun (x : State) => x.requests.tunerLane = none ∧ x.requests.slots[n] = none ∧
       ⟨.request, n.val⟩ ∈ x.presenter.pending ∧
       (Config.slotBase n.val, finishBytes r .done .none (selectResults x.tuner)) ∈ x.scratch.writes
     (s.tuner.signal = .acquiring ∨ s.tuner.signal = .noLock → ∀ sync,
       ∃ x, leaves (.synthLock sync) x ∧ x.tuner.signal = (if sync then .sync else .locked) ∧
         x.tuner.lockLimit = none ∧ x.tuner.aft = s.tuner.aft ∧ x.tuner.aftReady = true ∧
         (s.tuner.aft = .off → ended x) ∧ (s.tuner.aft ≠ .off → x.requests = s.requests)) ∧
     (s.tuner.lockLimit.isSome = true → s.tuner.signal = .acquiring →
       ∃ x, leaves .lockLimitExpiry x ∧ x.tuner.signal = .noLock ∧ x.tuner.aft = s.tuner.aft ∧
         ⟨.tuner, 0⟩ ∈ x.presenter.pending ∧ ended x) ∧
     (s.tuner.aft = .running → s.tuner.aftReady = true → ∀ q,
       ∃ x, leaves (.aftReading q) x ∧ x.tuner.signal = s.tuner.signal ∧
         (q = .centre → x.tuner.aft = .ok ∧ ended x) ∧
         (q ≠ .centre → s.tuner.readings < 39 → x.tuner.aft = .running ∧ x.requests = s.requests) ∧
         (q ≠ .centre → 39 ≤ s.tuner.readings → x.tuner.aft = .fail ∧ x.tuner.correction = 0 ∧ ended x)))

/-- R88, R90, R91: FINE and SELECT elsewhere. FINE in ACTIVE tunes the selection's divisor with the fine offset
brought into -31..+31, without AFT, and finishes DONE at the lock report, also where an AFT has been started since;
with the store flag and a preset selected, the preset's record is written with
the offset and its AFT flag clear. While the owner is RECORD both are refused TUNER_HELD; FINE with no selection is
refused BAD_ARGUMENT, and a store while the host holds PRESETS SECTION_HELD. R90: SELECT and FINE in QUIET set the
selection, or make the store, and finish DONE at once with the signal as it stands and AFT OFF; nothing is tuned and
the owner stays. -/
def Obligations.FineTunesAndStores : Prop :=
  (∀ (c : Instr) (w : Word) (s : State) (n : Fin 16) (r : Request), c.post? = some w → s.serves w n r →
    let o := s.taken w n r
    let fine := clampInt (-31) 31 (r.signed 0)
    (r.kind = 11 → s.power.state = .active → s.tuner.owner ≠ .record → r.byte 1 = 0 →
      (∀ d, s.tuner.selection = .direct d →
        ∃ x, exec c s = .next (State.finishPost w (s.posted w) x) ∧ x.tuner.base = some ⟨d, fine, 0, false⟩ ∧
          x.tuner.owner = .view ∧ x.tuner.aft = .off ∧ x.tuner.correction = 0 ∧
          x.tuner.signal = .acquiring ∧ x.requests.tunerLane = some n ∧
          x.tuner.fineStored = false) ∧
      (∀ p, s.tuner.selection = .preset p → (o.preset p).inUse = true →
        ∃ x, exec c s = .next (State.finishPost w (s.posted w) x) ∧
          x.tuner.base = some ⟨(o.preset p).divisor, fine, p, false⟩ ∧ x.tuner.owner = .view ∧
          x.tuner.aft = .off ∧ x.tuner.signal = .acquiring ∧ x.requests.tunerLane = some n)) ∧
    (r.kind = 11 → s.tuner.owner ≠ .record → r.byte 1 ≠ 0 → s.claims.host.presets = false →
      ∀ p, 1 ≤ p → s.tuner.selection = .preset p → (o.preset p).inUse = true →
        s.tuner.scan = none → s.requests.tunerLane = none →
        ∃ x, exec c s = .next (State.finishPost w (s.posted w) x) ∧ x.tuner.fineStored = true ∧
          (Config.presetBase p, [o.byte (Config.presetBase p) &&& 0x0D, signed8 fine]
            ++ o.bytes (Config.presetBase p + 2) 4 ++ zeros 10) ∈ x.scratch.writes) ∧
    (r.kind = 10 ∨ r.kind = 11 ∨ r.kind = 12 → s.tuner.owner = .record → s.tuner.seek = none →
      exec c s = .next (State.finishPost w (s.posted w) (o.finishSlot n .refused .tunerHeld []))) ∧
    (r.kind = 11 → s.tuner.owner ≠ .record → s.tuner.seek = none → s.tuner.selection = .none →
      exec c s = .next (State.finishPost w (s.posted w) (o.finishSlot n .refused .badArgument []))) ∧
    (r.kind = 11 → s.tuner.owner ≠ .record → s.tuner.seek = none → r.byte 1 ≠ 0 →
      s.claims.host.presets = true → (∃ p, s.tuner.selection = .preset p ∧ p ≠ 0) →
      exec c s = .next (State.finishPost w (s.posted w) (o.finishSlot n .refused .sectionHeld [])))) ∧
  (∀ (c : Instr) (w : Word) (s : State) (n : Fin 16) (r : Request), c.post? = some w → s.serves w n r →
    s.power.state = .quiet → s.tuner.scan = none → s.requests.tunerLane = none →
    (s.tuner.owner = .none ∧ s.tuner.signal = .unpowered) ∨
      (s.tuner.owner = .seek ∧ s.tuner.signal ≠ .unpowered) →
    let o := s.taken w n r
    let stands := fun (x : State) =>
      exec c s = .next (State.finishPost w (s.posted w) x) ∧ x.requests.slots[n] = none ∧
        x.decoder = s.decoder ∧ x.clock = s.clock ∧ x.power = s.power ∧ x.transport = s.transport
    (∀ sel, r.kind = 10 → o.selectTarget r = .ok sel →
      ∃ x, stands x ∧
        x.tuner = { s.tuner with selection := sel, lastDivisor := x.tuner.lastDivisor } ∧
        x.scratch.writes = [(Config.slotBase n.val, finishBytes r .done .none
          (selectResults { x.tuner with aft := .off }))]) ∧
    (∀ p, r.kind = 11 → 1 ≤ p → s.tuner.selection = .preset p → (o.preset p).inUse = true →
      r.byte 1 = 0 ∨ s.claims.host.presets = false →
      ∃ x, stands x ∧
        x.tuner = { s.tuner with lastDivisor := x.tuner.lastDivisor, fineStored := r.byte 1 != 0 } ∧
        (Config.slotBase n.val, finishBytes r .done .none
          (fineResults { x.tuner with aft := .off } (r.byte 1 != 0))) ∈ x.scratch.writes ∧
        (r.byte 1 = 0 → x.scratch.writes.length = 1))) ∧
  (∀ (s : State) (n : Fin 16) (r : Request) (sync : Bool), s.on = true → s.tuner.scan = none →
    s.requests.tunerLane = some n → s.requests.slots[n] = some r → r.kind = 11 → s.tuner.base.isSome = true →
    s.tuner.signal = .acquiring ∨ s.tuner.signal = .noLock →
    ∃ x, exec (.synthLock sync) s = .next (State.finish s.afterWrites x) ∧
      x.tuner.signal = (if sync then .sync else .locked) ∧ x.tuner.lockLimit = none ∧
      x.tuner.base = s.tuner.base ∧ x.tuner.aft = s.tuner.aft ∧ x.requests.tunerLane = none ∧
      (Config.slotBase n.val, finishBytes r .done .none (fineResults x.tuner s.tuner.fineStored))
        ∈ x.scratch.writes)

/-- R88, R92, R93: SCAN, ADD with an unused preset or REPLACE: the scan takes the tuner and the engine's hold on
PRESETS, and its first step is tuned at divisor 1,343 for a dwell of 40 ms, without a lock limit (log 26). REPLACE
empties every preset; that the record write which does so fills the emptied presets' other fields with 0 is the
model's choice (log 68). The tuner request in flight finishes SUPERSEDED, a scan with the presets stored and, by the
model's choice (log 78), its last step divisor (R88, R96). R92, R95: ADD with no unused preset ends at once: DONE
with 0 presets stored, TABLE_FULL and the last step divisor 0 (the model's choice, log 56), PRESETS free again, the
owner VIEW with a tune of the selection if the host's need is ON, else NONE, which in QUIET has no power; no step is
made. A mode other than ADD or REPLACE is refused BAD_ARGUMENT, and a scan while the host holds PRESETS
SECTION_HELD. -/
def Obligations.ScanBeginsAtTheLowestDivisor : Prop :=
  ∀ (c : Instr) (w : Word) (s : State) (n : Fin 16) (r : Request), c.post? = some w → s.serves w n r →
    r.kind = 12 → s.tuner.owner ≠ .record →
    let o := s.taken w n r
    (s.claims.host.presets = false → (r.byte 0 = 0 ∧ o.lowestUnused.isSome = true) ∨ r.byte 0 = 1 →
      (∀ m, s.requests.tunerLane = some m → m ≠ n ∧ s.requests.slots[m] ≠ none) →
      ∃ x, exec c s = .next (State.finishPost w (s.posted w) x) ∧
        x.tuner.owner = .scan ∧ x.claims.engine.presets = true ∧ x.requests.tunerLane = some n ∧
        x.tuner.scan = some ⟨r.byte 0 == 1, 1343, .dwell, some (s.timeBase + Config.scanDwell), 0, none, 0⟩ ∧
        x.tuner.base = some ⟨1343, 0, 0, false⟩ ∧ x.tuner.signal = .acquiring ∧ x.tuner.lockLimit = none ∧
        x.tuner.selection = s.tuner.selection ∧
        (r.byte 0 = 1 → (Config.presetBase 1, zeros 1024) ∈ x.scratch.writes) ∧
        (∀ m q, s.requests.tunerLane = some m → s.requests.slots[m] = some q →
          x.requests.slots[m] = none ∧ ⟨.request, m.val⟩ ∈ x.presenter.pending ∧
          (s.tuner.scan = none →
            (Config.slotBase m.val, finishBytes q .superseded .none []) ∈ x.scratch.writes) ∧
          (∀ g, s.tuner.scan = some g → (Config.slotBase m.val, finishBytes q .superseded .none
            (le16 g.stored ++ le16 0 ++ le16 g.step)) ∈ x.scratch.writes))) ∧
    (s.claims.host.presets = false → r.byte 0 = 0 → o.lowestUnused = none → s.requests.tunerLane = none →
      s.tuner.scan = none →
      ∃ x, exec c s = .next (State.finishPost w (s.posted w) x) ∧
        x.tuner.scan = none ∧ x.claims.engine.presets = false ∧ x.requests.tunerLane = none ∧
        x.requests.slots[n] = none ∧
        (Config.slotBase n.val, finishBytes r .done .none (le16 0 ++ le16 1 ++ le16 0)) ∈ x.scratch.writes ∧
        x.tuner.owner = (if s.power.hostNeed then .view else .none) ∧
        (∀ d, s.tuner.selection = .direct d → x.tuner.selection = .direct d ∧
          (s.power.hostNeed = true → x.tuner.base = some ⟨d, 0, 0, false⟩ ∧ x.tuner.signal = .acquiring ∧
            x.tuner.lockLimit = some (s.timeBase + Config.lockLimit))) ∧
        (∀ p, s.tuner.selection = .preset p → 1 ≤ p → p ≤ 64 → x.tuner.selection = .preset p ∧
          (s.power.hostNeed = true → x.tuner.base = some ((o.preset p).base p))) ∧
        (s.tuner.selection = .none → x.tuner.selection = .none ∧
          (s.power.hostNeed = true → x.tuner.base = none)) ∧
        (s.power.hostNeed = false → s.power.state = .quiet → x.tuner.signal = .unpowered)) ∧
    (s.tuner.seek = none → 1 < r.byte 0 →
      exec c s = .next (State.finishPost w (s.posted w) (o.finishSlot n .refused .badArgument []))) ∧
    (s.tuner.seek = none → r.byte 0 ≤ 1 → s.claims.host.presets = true →
      exec c s = .next (State.finishPost w (s.posted w) (o.finishSlot n .refused .sectionHeld [])))

/-- R116: SET_CLOCK with a valid date and time: the calendar becomes the value given with phase 0 and runs, the
clock state becomes HOST, the implausible count 0, the suspension is cleared, the scheduler is handed the step,
and the slot finishes DONE with the value before and after. The vote window stays. -/
def Obligations.SetClockSetsTheCalendar : Prop :=
  ∀ (c : Instr) (w : Word) (s : State) (n : Fin 16) (r : Request), c.post? = some w → s.serves w n r →
    r.kind = 13 → validDate ⟨r.word 0, r.byte 2, r.byte 3⟩ = true → r.byte 4 ≤ 23 → r.byte 5 ≤ 59 →
    r.byte 6 ≤ 59 →
    let new := dayNumber ⟨r.word 0, r.byte 2, r.byte 3⟩ * 86400 + r.byte 4 * 3600 + r.byte 5 * 60 + r.byte 6
    ∃ x, exec c s = .next (State.finishPost w (s.posted w) x) ∧
      x.clock = { s.clock with
        calendar := ⟨dayNumber ⟨r.word 0, r.byte 2, r.byte 3⟩, r.byte 4 * 3600 + r.byte 5 * 60 + r.byte 6, 0⟩
        running := true, state := .host, implausible := 0, suspended := false } ∧
      x.scratch.notes = [.step s.clock.calendar.seconds new] ∧
      x.scratch.writes = [(Config.slotBase n.val, finishBytes r .done .none
        (calendarResult s.clock.calendar ++ calendarResult x.clock.calendar))] ∧
      x.requests.slots[n] = none ∧ x.transport = s.transport ∧ x.servo = s.servo ∧
      x.position = s.position ∧ x.tuner = s.tuner ∧ x.scheduler = s.scheduler ∧ x.power = s.power

/-- R58: COUNTER_ZERO: the counter becomes 0 and every position kept moves by the old counter: the map's entries, of
which those that leave the range go, the segment entry, the mark being written, the lowest position of a run of the
mark detector and the target of a LOCATE, held in the range. The slot finishes DONE with the old counter and the
number of entries removed; the source, the gap count, the residues and everything else of the position unit stay. -/
def Obligations.CounterZeroRebasesTheMap : Prop :=
  ∀ (c : Instr) (w : Word) (s : State) (n : Fin 16) (r : Request), c.post? = some w → s.serves w n r →
    r.kind = 14 →
    let p := s.position
    ∃ x, exec c s = .next (State.finishPost w (s.posted w) x) ∧
      x.position = { p with
        counter := 0
        map := (p.map.map fun e => { e with position := e.position - p.counter }).filter fun e =>
          decide (-899999 ≤ e.position ∧ e.position ≤ 899999)
        segment := p.segment.map fun q => q - p.counter
        detector := p.detector.map fun q => { q with lowest := q.lowest - p.counter }
        writer := match p.writer with
          | .idle => .idle
          | .writing count program mark => .writing count program (mark.map fun q => q - p.counter)
        locate := p.locate.map fun l =>
          { l with target := l.target.map fun t => clampInt (-899999) 899999 (t - p.counter) } } ∧
      x.scratch.writes = [(Config.slotBase n.val, finishBytes r .done .none
        (signed32 p.counter ++ le16 (p.map.length - x.position.map.length)))] ∧
      x.requests.slots[n] = none ∧ x.transport = s.transport ∧ x.servo = s.servo ∧ x.tuner = s.tuner

/-- R42: TRACK VALUE sets the offset, brought into -63..+63, and ends an auto search without restoring; TRACK
AUTO begins one in PLAYING on CONTROL, leaves one PENDING in PLAYING otherwise, and changes nothing in any other
mode. The slot finishes DONE with the result. The model's choice (log 39): PLAYING on CONTROL but not in PHASE answers
PENDING, as the rule has it for INTERNAL; and the offset reported for a search started is the one before the first
trial. -/
def Obligations.TrackSetsTheOffset : Prop :=
  ∀ (c : Instr) (w : Word) (s : State) (n : Fin 16) (r : Request), c.post? = some w → s.serves w n r →
    r.kind = 15 →
    let done := fun x results => exec c s = .next (State.finishPost w (s.posted w) x) ∧
      x.scratch.writes = [(Config.slotBase n.val, finishBytes r .done .none results)] ∧
      x.requests.slots[n] = none ∧ x.transport = s.transport ∧ x.position = s.position
    (r.byte 0 = 0 → ∃ x, done x (le16 0 ++ signed16 (clampInt (-63) 63 (r.signed 1))) ∧
      x.servo = { s.servo with tracking := clampInt (-63) 63 (r.signed 1), auto := .idle }) ∧
    (r.byte 0 = 1 → s.transport.mode = .playing → s.servo.onControl = true →
      ∃ x, done x (le16 1 ++ signed16 s.servo.tracking) ∧ x.servo.tracking = -56 ∧
        ∃ q, x.servo.auto = .coarse q ∧ q.trial = -56 ∧ q.best = none) ∧
    (r.byte 0 = 1 → s.transport.mode = .playing → s.servo.onControl = false →
      ∃ x, done x (le16 2) ∧ x.servo.auto = .pending) ∧
    (r.byte 0 = 1 → s.transport.mode ≠ .playing →
      ∃ x, done x (le16 3) ∧ x.servo = s.servo)

/-- R171, R188: POWER ON in QUIET makes the part ACTIVE for the host, with wake reason HOST_ON, and the tuner's owner
VIEW, on its selection; with nothing selected the signal shows NO_LOCK (the model's choice, log 15). POWER OFF with
no other need makes it QUIET, with the supply OFF and the tuner without power. R26: with the tape threaded in PLAYING
the motion stops first, the mode staying PLAYING meanwhile (log 12), and the part stays ACTIVE for the transport; the
path goes to STOPPED, and from there on to unthread. -/
def Obligations.PowerRequestsMoveTheState : Prop :=
  (∀ (c : Instr) (w : Word) (s : State) (n : Fin 16) (r : Request), c.post? = some w → s.serves w n r →
    r.kind = 16 → s.still = true → s.settledPower = true → s.holder = none →
    s.transport.control = none → s.requests.transportLane = none → s.requests.tunerLane = none →
    s.transport.mode = .empty ∨ s.transport.mode = .loaded →
    (r.byte 0 = 1 → s.power.state = .quiet → s.tuner.owner = .none → (∀ p, s.tuner.selection ≠ .preset p) →
      ∃ t, exec c s = .next t ∧ t.power.hostNeed = true ∧ t.power.state = .active ∧
        t.power.wake = .hostOn ∧ t.power.supply = .settling ∧
        t.power.settle = some (s.timeBase + Config.settle) ∧ t.tuner.owner = .view ∧
        (s.tuner.selection = .none → t.tuner.signal = .noLock) ∧
        (∀ d, s.tuner.selection = .direct d → t.tuner.base = some ⟨d, 0, 0, false⟩ ∧
          t.tuner.signal = .acquiring ∧ t.tuner.lockLimit = some (s.timeBase + Config.lockLimit)) ∧
        t.requests.slots[n] = none ∧ t.transport.mode = s.transport.mode) ∧
    (r.byte 0 = 0 → s.power.state = .active → s.power.schedulerNeed = false →
      s.tuner.owner = .view ∨ s.tuner.owner = .none →
      ∃ t, exec c s = .next t ∧ t.power.hostNeed = false ∧ t.power.state = .quiet ∧
        t.power.supply = .off ∧ t.power.settle = none ∧ t.tuner.owner = .none ∧
        t.tuner.signal = .unpowered ∧ t.tuner.base = none ∧ t.requests.slots[n] = none ∧
        t.transport.mode = s.transport.mode)) ∧
  (∀ (c : Instr) (w : Word) (s : State) (n : Fin 16) (r : Request), c.post? = some w → s.serves w n r →
    r.kind = 16 → r.byte 0 = 0 → s.transport.mode = .playing → s.transport.camMove = none →
    s.transport.path = none → s.transport.stopLimit = none → s.transport.control = none →
    s.requests.transportLane = none → s.servo.cap = .phase → s.servo.reel = .off → s.power.state = .active →
    ∃ x, exec c s = .next (State.finishPost w (s.posted w) x) ∧
      x.transport.path = some ⟨.powerDown, .stopping, false, false⟩ ∧
      x.transport.stopLimit = some (s.timeBase + Config.stopMotionLimit) ∧ x.servo.cap = .off ∧
      x.transport.mode = .playing ∧ x.power.hostNeed = false ∧ x.power.transportNeed = true ∧
      x.power.state = .active ∧
      (Config.slotBase n.val, finishBytes r .done .none (le16 0 ++ le16 0)) ∈ x.scratch.writes) ∧
  (∀ s : State, s.transport.path = some ⟨.powerDown, .cam, false, false⟩ → s.transport.camMove = none →
    s.sensors.cam = .at .full → s.transport.stopLimit = none → s.servo.moving = false →
    ∃ x, s.pathStep = some x ∧ x.transport.mode = .stopped ∧
      x.transport.path = some ⟨.unthread, .cam, false, false⟩)

/-- R21, R97, R110, R160, R190, R202: a BLOCK_RESET that passes its checks, for each member alone: TRANSPORT ends
the request in flight SUPERSEDED and drops the path and the LOCATE, and the motors and the timers stop; with no cam
move under way the mode is the one of the cam's position, at BETWEEN that of the safe stop (the model's choice, log
57), and the move to rest begins without waiting for the reels (the model's choice, log 64): from HALF and DRIVE to
FULL in STOPPED, from BETWEEN down to the first position below, and at FULL, HOUSED and EJECT it is at rest;
SCHEDULER closes every running entry ABANDONED (R160), and TUNER in ACTIVE for the host tunes its selection again
(R97). A cam move under way goes on, an EJECT's too (log 83), in the mode it runs in, and out of FAULT_HOLD in that
of the move. R190: LINE_DATA and PRESENTER in one set are both reset, the presenter first. -/
def Obligations.BlockResetsByMember : Prop :=
  (∀ (c : Instr) (w : Word) (s : State) (n : Fin 16) (r : Request), c.post? = some w → s.serves w n r →
    r.kind = 17 → (s.taken w n r).checkReset r = none →
    let o := s.taken w n r
    (r.byte 0 % 32 = 1 →
      (∀ m, s.requests.transportLane = some m → m ≠ n ∧ s.requests.slots[m] ≠ none) →
      ∃ x, exec c s = .next (State.finishPost w (s.posted w) x) ∧ x.servo.drum = .off ∧ x.servo.cap = .off ∧
        x.servo.reel = .off ∧ x.servo.lastFail = none ∧ x.transport.camMove = s.transport.camMove ∧
        x.transport.fault = .none ∧ x.transport.still = none ∧ x.transport.stall = none ∧
        x.transport.countdown = none ∧ x.transport.order = none ∧
        x.sensors = s.sensors ∧ x.position.locate = none ∧ x.requests.transportLane = none ∧
        (∀ m q, s.requests.transportLane = some m → s.requests.slots[m] = some q →
          (Config.slotBase m.val, finishBytes q .superseded .none []) ∈ x.scratch.writes ∧
          x.requests.slots[m] = none ∧ ⟨.request, m.val⟩ ∈ x.presenter.pending) ∧
        x.requests.slots[n] = none ∧
        (Config.slotBase n.val, finishBytes r .done .none (le16 1)) ∈ x.scratch.writes ∧
        (s.transport.camMove = none →
          x.transport.path = some ⟨.rest, .cam, false, false⟩ ∧
          x.transport.mode = (match s.sensors.cam with
            | .at .eject | .between .eject => .empty
            | .at .housed => .loaded
            | _ => .stopped)) ∧
        (∀ m, s.transport.camMove = some m →
          x.transport.path = some ⟨.rest, .waitMove, false, false⟩ ∧
          x.transport.mode = (if s.transport.mode = .faultHold then movingMode .stopped m.target m.up true
            else s.transport.mode))) ∧
    (r.byte 0 % 32 = 2 → s.power.state = .quiet → s.tuner.scan = none → s.tuner.signal ≠ .unpowered →
      (∀ m, s.requests.tunerLane = some m → m ≠ n ∧ s.requests.slots[m] ≠ none) →
      ∃ x, exec c s = .next (State.finishPost w (s.posted w) x) ∧ x.tuner.owner = .none ∧
        x.tuner.seek = none ∧ x.tuner.signal = .unpowered ∧ x.tuner.base = none ∧ x.tuner.aft = .off ∧
        x.tuner.correction = 0 ∧ x.tuner.lockLimit = none ∧ x.tuner.selection = s.tuner.selection ∧
        x.requests.tunerLane = none ∧ x.clock.seek = (if s.tuner.seek = none then s.clock.seek else none)) ∧
    (∀ d, r.byte 0 % 32 = 2 → s.power.state = .active → s.power.hostNeed = true → s.tuner.scan = none →
      s.tuner.selection = .direct d →
      (∀ m, s.requests.tunerLane = some m → m ≠ n ∧ s.requests.slots[m] ≠ none) →
      ∃ x, exec c s = .next (State.finishPost w (s.posted w) x) ∧ x.tuner.owner = .view ∧
        x.tuner.base = some ⟨d, 0, 0, false⟩ ∧ x.tuner.signal = .acquiring ∧ x.tuner.aft = .off ∧
        x.tuner.correction = 0 ∧ x.tuner.lockLimit = some (s.timeBase + Config.lockLimit) ∧
        x.tuner.selection = .direct d ∧ x.tuner.seek = none ∧ x.requests.tunerLane = none) ∧
    (r.byte 0 % 32 = 4 →
      ∃ x, exec c s = .next (State.finishPost w (s.posted w) x) ∧ x.decoder.current = none ∧
        x.decoder.code = 0 ∧ x.decoder.miss = 0 ∧ x.decoder.lost = false ∧ x.decoder.errors = 0 ∧
        x.decoder.pendingRec = none ∧
        x.decoder.window = (if s.decoder.powered then some (s.timeBase + Config.missWindow) else none) ∧
        x.clock = { s.clock with window := [] } ∧ x.transport = s.transport ∧ x.tuner = s.tuner) ∧
    (r.byte 0 % 32 = 8 → (∀ m, s.run m = none) →
      ∃ x, exec c s = .next (State.finishPost w (s.posted w) x) ∧
        (∀ m, (x.entry m).copy = o.progCfg m ∧ (x.entry m).run = none) ∧ x.transport = s.transport ∧
        x.tuner = s.tuner ∧ x.servo = s.servo) ∧
    (r.byte 0 % 32 = 8 →
      (∀ m m' q q', s.run m = some q → s.run m' = some q' → q.role = .holder → q'.role = .holder → m = m') →
      ∃ x, exec c s = .next (State.finishPost w (s.posted w) x) ∧ (∀ m, (x.entry m).run = none) ∧
        ∀ m q, s.run m = some q → (x.entry m).owned.outcome = q.report 17 ∧
          ⟨.program, m.val⟩ ∈ x.presenter.pending) ∧
    (r.byte 0 % 32 = 20 →
      ∃ x, exec c s = .next (State.finishPost w (s.posted w) x) ∧ x.decoder.current = none ∧
        x.decoder.code = 0 ∧ x.decoder.errors = 0 ∧ x.clock = { s.clock with window := [] } ∧
        x.presenter.cl = 15 ∧ x.presenter.throttle = none ∧ x.presenter.pending = [⟨.request, n.val⟩] ∧
        (∀ g : Fin 7, x.presenter.gates[g] = .opened) ∧ x.transport = s.transport ∧ x.tuner = s.tuner) ∧
    (r.byte 0 % 32 = 16 →
      ∃ x, exec c s = .next (State.finishPost w (s.posted w) x) ∧ x.presenter.cl = 15 ∧
        x.presenter.throttle = none ∧ x.presenter.pending = [⟨.request, n.val⟩] ∧
        (∀ g : Fin 7, x.presenter.gates[g] = .opened) ∧ x.transport = s.transport ∧ x.tuner = s.tuner ∧
        x.decoder = s.decoder ∧ x.scheduler = s.scheduler)) ∧
  (∀ (s : State) (p : CamPos), s.transport.path = some ⟨.rest, .cam, false, false⟩ →
    s.transport.camMove = none →
    let moves := fun (x : State) (target : CamPos) (up : Bool) (mode : Mode) => s.pathStep = some x ∧
      x.transport.camMove = some ⟨target, up, s.timeBase + Config.camLimit⟩ ∧ x.transport.mode = mode ∧
      x.transport.path = s.transport.path
    (s.sensors.cam = .at p → p = .half ∨ p = .drive → s.power.supply = .ready → s.transport.mode = .stopped →
      ∃ x, moves x .full (decide (p = .half)) .stopped) ∧
    (s.sensors.cam = .at p → p = .full ∨ p = .housed ∨ p = .eject → s.transport.mode = restMode p →
      s.transport.switchArmed = false → s.transport.order = none →
      s.pathStep = some { s with transport.path := none }) ∧
    (s.sensors.cam = .between p → s.power.supply = .ready →
      s.transport.mode = (if p = .eject then .empty else .stopped) →
      ∃ x, moves x p false
        (match p with | .eject => .ejecting | .housed => .unthreading | _ => .stopped)))

/-! ### The mechanism -/

/-- R2 to R4, R7, R14, R15: the contacts report a position. With no move to it only the cam position changes; an
arrival on a path only ends the move, with the pinch on at DRIVE alone (R1; log 47); the housing of a cassette, and
by the model's choice (log 75) the arrival at HOUSED on the way up again from an EJECTING that a request has turned
round, makes the mode LOADED, zeroes the counter and the tracking offset, empties the map and the measurements and
raises TRANSPORT/CASSETTE_IN, and a wind leg of a LOCATE that waits for it ends where the new distance asks for it
(R60; log 24); the end of an eject makes it EMPTY, empties the map and raises TRANSPORT/CASSETTE_OUT, also where the
EJECT that began it was superseded or has failed (the model's choice, log 36), and an EJECT in flight then finishes
DONE. R14, R21: the arrival that ends an EJECT in FAULT_HOLD does the same, the fault code becomes NONE and
FAULT_HOLD is left, which the scheduler is told of (R147). After a BLOCK_RESET of TRANSPORT during that move (R21)
the arrival makes it EMPTY with none of these effects (the model's choice, log 83). No tab stands without a cassette
(R16; log 46). -/
def Obligations.CamArrivals : Prop :=
  ∀ (s : State) (p : CamPos), s.on = true →
    let o := s.afterWrites
    ((∀ m, s.transport.camMove = some m → m.target ≠ p) →
      exec (.camMoveArrival p) s = .next (State.finish o { o with sensors.cam := .at p })) ∧
    (∀ m q, s.transport.camMove = some m → m.target = p → s.transport.path = some q → q.stage ≠ .waitMove →
      p ≠ .eject → (p = .housed → m.up = false) →
      exec (.camMoveArrival p) s
        = .next (State.finish o { o with
            sensors.cam := .at p, transport.camMove := none, transport.pinch := decide (p = .drive) })) ∧
    (∀ m, s.transport.camMove = some m → m.target = p → p = .housed → m.up = true →
      s.transport.mode = .empty →
      (∀ l, s.position.locate = some l →
        l.leg = .search ∧ ∀ q, s.transport.path = some q → q.stage ≠ .driving) →
      ∃ x, exec (.camMoveArrival p) s = .next (State.finish o x) ∧ x.sensors.cam = .at .housed ∧
        x.transport.mode = .loaded ∧ x.transport.camMove = none ∧ x.position.counter = 0 ∧
        x.position.map = [] ∧ x.position.mapFull = false ∧ x.servo.tracking = 0 ∧
        x.servo.playSpeed = .standard ∧ x.remaining.ks = none ∧ x.remaining.ku = none ∧
        x.remaining.fraction = none ∧ ⟨.transport, 0⟩ ∈ x.presenter.pending ∧
        x.tuner = s.tuner ∧ x.requests = s.requests) ∧
    (∀ m l dir t hf, s.transport.camMove = some m → m.target = p → p = .housed → m.up = true →
      s.transport.mode = .empty → s.position.locate = some l → l.leg = .wind dir → l.target = some t →
      s.transport.path = some ⟨.wind dir, .waitMove, hf, false⟩ → s.servo.moving = false →
      s.transport.stopLimit = none →
      ∃ x, exec (.camMoveArrival p) s = .next (State.finish o x) ∧ x.transport.mode = .loaded ∧
        x.position.counter = 0 ∧ ⟨.transport, 0⟩ ∈ x.presenter.pending ∧ x.requests = s.requests ∧
        (t.natAbs ≤ 750 ∨ distanceDir t ≠ dir →
          x.position.locate = some { l with leg := .search } ∧
            x.transport.path = some ⟨.locateSearch, .cam, false, false⟩) ∧
        (750 < t.natAbs → distanceDir t = dir →
          x.position.locate = some l ∧ x.transport.path = some ⟨.wind dir, .waitMove, false, false⟩)) ∧
    (∀ m, s.transport.camMove = some m → m.target = p → p = .eject → s.transport.mode = .ejecting →
      (∀ q, s.transport.path = some q → q.goal ≠ .rest) → s.position.detector = none →
      ∃ x, exec (.camMoveArrival p) s = .next (State.finish o x) ∧ x.sensors.cam = .at .eject ∧
        x.transport.mode = .empty ∧ x.transport.camMove = none ∧ x.transport.switchArmed = false ∧
        x.position.map = [] ∧ x.position.mapFull = false ∧ x.position.counter = s.position.counter ∧
        ⟨.transport, 1⟩ ∈ x.presenter.pending ∧ x.tuner = s.tuner ∧ x.sensors.tabPresent = false ∧
        x.transport.pinch = false ∧
        (s.transport.path = some ⟨.eject, .cam, false, false⟩ →
          ∀ n r, s.requests.transportLane = some n → s.requests.slots[n] = some r →
            (Config.slotBase n.val, finishBytes r .done .none []) ∈ (State.settleEvent o x).scratch.writes ∧
            (State.settleEvent o x).requests.transportLane = none ∧
            (State.settleEvent o x).transport.path = none)) ∧
    (∀ m, s.transport.camMove = some m → m.target = p → p = .eject → s.transport.mode = .faultHold →
      (∀ q, s.transport.path = some q → q.goal ≠ .rest) → s.position.locate = none →
      ∃ x, exec (.camMoveArrival p) s = .next (State.finish o x) ∧ x.sensors.cam = .at .eject ∧
        x.transport.mode = .empty ∧ x.transport.fault = .none ∧ x.transport.camMove = none ∧
        x.transport.switchArmed = false ∧ x.position.map = [] ∧ x.position.mapFull = false ∧
        x.position.counter = s.position.counter ∧ ⟨.transport, 1⟩ ∈ x.presenter.pending ∧
        x.tuner = s.tuner ∧ x.sensors.tabPresent = false ∧ x.transport.pinch = false ∧
        x.scratch.notes = [.poke] ∧
        (s.transport.path = some ⟨.eject, .cam, false, false⟩ → s.holder = none →
          ∀ n r, s.requests.transportLane = some n → s.requests.slots[n] = some r →
            ∃ y z, x.inner = some y ∧ y.inner = some z ∧
              (Config.slotBase n.val, finishBytes r .done .none []) ∈ z.scratch.writes ∧
              z.requests.transportLane = none ∧ z.transport.path = none ∧ z.transport.mode = .empty)) ∧
    (∀ m q, s.transport.camMove = some m → m.target = p → p = .eject → s.transport.mode = .ejecting →
      s.transport.path = some q → q.goal = .rest → q.stage = .waitMove →
      exec (.camMoveArrival p) s = .next (State.finish o { o with
        sensors.cam := .at .eject
        transport := { s.transport with camMove := none, pinch := false, mode := .empty } }))

/-- R4, R19: a cam move past its limit and a reel stall enter FAULT_HOLD: every motor stops, the path is dropped,
the request in flight fails with the code, and the presenter receives cause FAULT with it. With no move under way,
or no stall timer running, the expiry does nothing (log 3). R20, R34: a lock deadline runs out: capstan, reels and
drum stop, the kind of the deadline is recorded as the last failure, the fault code is SERVO_FAIL with its cause,
the request in flight fails with SERVO_FAIL, and STOP's path begins. R44: an auto search, COARSE, FINE or PENDING,
ends with its starting offset. Without a deadline the expiry does nothing (log 3). R24, R86: a manual recording, in
RECORD_PAUSE too, that a stall, a lock deadline or dew ends, or in RECORDING the tape end, leaves no recording owner
and no countdown, and the tuner goes back to VIEW with the host's need ON, else to NONE; out of it a stall enters
FAULT_HOLD, and for the others the mode is STOPPED in that event, while the tape still stops (the model's reading,
log 12). -/
def Obligations.MotorFaults : Prop :=
  (∀ s : State, s.on = true →
     let o := s.afterWrites
     let held := fun (x : State) (code : FaultCode) =>
       x.transport.mode = .faultHold ∧ x.transport.fault = code ∧ x.transport.camMove = none ∧
       x.transport.path = none ∧ x.transport.stopLimit = none ∧ x.transport.stall = none ∧
       x.transport.order = none ∧ x.servo.drum = .off ∧ x.servo.cap = .off ∧ x.servo.reel = .off ∧
       x.position.locate = none ∧ ⟨.fault, code.reason.code⟩ ∈ x.presenter.pending ∧
       x.sensors = s.sensors ∧
       (∀ n r, s.requests.transportLane = some n → s.requests.slots[n] = some r →
         (Config.slotBase n.val, finishBytes r .failed code.reason []) ∈ x.scratch.writes ∧
         x.requests.transportLane = none)
     (s.transport.owner ≠ .manual → s.transport.camMove.isSome = true →
       ∃ x, exec .camMoveLimit s = .next (State.finish o x) ∧ held x .mechJam) ∧
     (s.transport.owner ≠ .manual → s.transport.stall.isSome = true →
       ∃ x, exec .reelStall s = .next (State.finish o x) ∧ held x .reelStall) ∧
     (s.transport.camMove = none → exec .camMoveLimit s = .next (State.finish o o)) ∧
     (s.transport.stall = none → exec .reelStall s = .next (State.finish o o))) ∧
  (∀ (s : State) (m : Motor), s.on = true →
     let o := s.afterWrites
     (s.servo.deadline m = none → exec (.servoDeadlineExpiry m) s = .next (State.finish o o)) ∧
     (∀ d, s.servo.deadline m = some d →
       ∃ x, exec (.servoDeadlineExpiry m) s = .next (State.finish o x) ∧ x.servo.drum = .off ∧
         x.servo.cap = .off ∧ x.servo.reel = .off ∧ x.servo.lastFail = some d.kind ∧ x.transport.fault = .servoFail ∧
         x.servo.auto = .idle ∧ (∀ q, s.servo.auto = .coarse q → x.servo.tracking = q.start) ∧
         (∀ q best stage, s.servo.auto = .fine q best stage → x.servo.tracking = q.start) ∧
         (s.servo.auto = .idle ∨ s.servo.auto = .pending → x.servo.tracking = s.servo.tracking) ∧
         x.transport.order = none ∧ ⟨.fault, 14⟩ ∈ x.presenter.pending ∧
         (∀ n r, s.requests.transportLane = some n → s.requests.slots[n] = some r →
           (Config.slotBase n.val, finishBytes r .failed .servoFail []) ∈ x.scratch.writes ∧
           x.requests.transportLane = none) ∧
         (s.transport.mode ∈ [Mode.threading, .stopped, .playing, .recording, .cue, .review, .still, .recordPause,
             .windFwd, .windRev] →
           ∃ stage hf, x.transport.path = some ⟨.stop false, stage, hf, false⟩) ∧
         (s.transport.mode = .unthreading ∨ s.transport.mode = .ejecting →
           ∃ stage hf, x.transport.path = some ⟨.stop true, stage, hf, false⟩))) ∧
  (∀ (s : State) (c : Instr) (m : Motor), s.on = true →
     s.transport.mode = .recording ∨ s.transport.mode = .recordPause → s.transport.owner = .manual →
     s.tuner.owner = .record → s.transport.camMove = none →
     (c = .reelStall ∧ s.transport.stall.isSome = true) ∨
       (c = .servoDeadlineExpiry m ∧ (s.servo.deadline m).isSome = true) ∨
       (c = .dewAppears ∧ s.sensors.dew = false) ∨
       (c = .endSensorActive ∧ s.transport.mode = .recording ∧ s.sensors.endActive = false) →
     ∃ x, exec c s = .next (State.finish s.afterWrites x) ∧ x.transport.owner = .none ∧
       x.transport.countdown = none ∧
       x.transport.mode = (if c = .reelStall then .faultHold else .stopped) ∧
       x.tuner.owner = (if s.power.hostNeed then .view else .none) ∧
       (c = .endSensorActive → ⟨.transport, 2⟩ ∈ x.presenter.pending))

/-- R2, R15 to R18, R147: the sensors' reports. The tab (a report made in EMPTY is kept: log 46), the clearing of dew
and a sensor that becomes inactive change the sensor and are made known to the scheduler; the closing of the cassette
switch in EMPTY at rest makes the housing of the cassette due, and any other movement of the switch changes the
sensor only. R17: dew appears. At rest in EMPTY and LOADED, in EJECTING and in FAULT_HOLD only the sensor changes (of
a request that waits in LOADED for the supply, this is the model's choice, log 48); in any other mode the request in
flight fails with DEW and the path is replaced by one to HOUSED. -/
def Obligations.SensorReportsAndDew : Prop :=
  (∀ (s : State) (b : Bool), s.on = true →
     let o := s.afterWrites
     exec (.recordTabChange b) s
       = .next (State.finish o (({ o with sensors.tabPresent := b } : State).note .poke)) ∧
     exec .dewClears s = .next (State.finish o (({ o with sensors.dew := false } : State).note .poke)) ∧
     exec .endSensorInactive s
       = .next (State.finish o (({ o with sensors.endActive := false } : State).note .poke)) ∧
     exec .startSensorInactive s = .next (State.finish o { o with sensors.startActive := false }) ∧
     (s.transport.mode = .empty → s.transport.camMove = none → s.transport.path = none →
       s.sensors.cam = .at .eject → s.sensors.switchClosed = false →
       exec (.cassetteSwitch true) s = .next (State.finish o { o with
         sensors.switchClosed := true, transport.path := some ⟨.house, .cam, false, false⟩ })) ∧
     (b = false ∨ s.sensors.switchClosed = true ∨ s.transport.mode ≠ .empty →
       exec (.cassetteSwitch b) s = .next (State.finish o { o with sensors.switchClosed := b }))) ∧
  (∀ s : State, s.on = true → s.transport.control = none →
     let o := s.afterWrites
     (s.sensors.dew = false → s.transport.mode = .empty ∨ s.transport.mode = .loaded ∨ s.transport.mode = .ejecting ∨
         s.transport.mode = .faultHold →
       exec .dewAppears s = .next (State.finish o (({ o with sensors.dew := true } : State).note .poke))) ∧
     (s.sensors.dew = false → s.transport.mode ≠ .empty → s.transport.mode ≠ .loaded →
       s.transport.mode ≠ .ejecting → s.transport.mode ≠ .faultHold → s.transport.owner ≠ .manual →
       ∃ x, exec .dewAppears s = .next (State.finish o x) ∧ x.sensors.dew = true ∧
         (∃ stage hf, x.transport.path = some ⟨.unthread, stage, hf, false⟩ ∧
           (s.transport.camMove.isSome = true → stage = .waitMove)) ∧
         x.transport.camMove = s.transport.camMove ∧ x.transport.order = none ∧ x.position.locate = none ∧
         (∀ n r, s.requests.transportLane = some n → s.requests.slots[n] = some r →
           (Config.slotBase n.val, finishBytes r .failed .dew []) ∈ x.scratch.writes ∧
           x.requests.transportLane = none)) ∧
     (s.sensors.dew = true → exec .dewAppears s = .next (State.finish o o)))

/-- R18: the end sensor becomes active in PLAYING, CUE or WIND_FWD, or the start sensor in REVIEW or WIND_REV, the
capstan or the reels driven: the motion stops on the way to STOPPED, the request in flight fails with AT_END or
AT_START, and the presenter receives TRANSPORT/TAPE_END or TAPE_START. At rest only the sensor changes. While a path
is still on its way to PLAYING, RECORDING or CUE, for the start sensor to REVIEW or reverse WIND, the request fails
with AT_END or AT_START, an order in flight goes and is reported failed, and STOP's path takes the path's place,
with no cause of its own, RECORD_PAUSE being left for STOPPED in that event (log 12); in LOADED and EMPTY, where
STOP is at rest (R10), the path ends, but for a housing move under way. R18, R27, R158: the end sensor in RECORDING
under a program: writing ends, the mode is STOPPED in that event (the model's reading, log 12) on STOP's path, the
presenter receives TRANSPORT/TAPE_END and the scheduler is told; the holder that writes then closes with end cause
TAPE_END and gives the deck back, and one that does not becomes PENDING with miss cause TAPE_FULL. -/
def Obligations.TapeEndsStopTheTape : Prop :=
  (∀ (s : State) (forward : Bool), s.on = true → s.transport.control = none → s.position.locate = none →
    (if forward then s.sensors.endActive else s.sensors.startActive) = false →
    let o := s.afterWrites
    let c := if forward then Instr.endSensorActive else .startSensorActive
    (s.transport.mode ∈ (if forward then [Mode.playing, .cue, .windFwd] else [.review, .windRev]) →
      s.transport.camMove = none → s.transport.stopLimit = none → s.servo.moving = true →
      ∃ x, exec c s = .next (State.finish o x) ∧
        (if forward then x.sensors.endActive = true else x.sensors.startActive = true) ∧
        (∃ hf, x.transport.path = some ⟨.stop false, .stopping, hf, false⟩) ∧
        x.transport.stopLimit = some (s.timeBase + Config.stopMotionLimit) ∧
        x.servo.cap = .off ∧ x.servo.reel = .off ∧ x.transport.stall = none ∧
        ⟨.transport, if forward then 2 else 3⟩ ∈ x.presenter.pending ∧
        (∀ n r, s.requests.transportLane = some n → s.requests.slots[n] = some r →
          (Config.slotBase n.val, finishBytes r .failed (if forward then .atEnd else .atStart) [])
            ∈ x.scratch.writes ∧ x.requests.transportLane = none)) ∧
    (s.transport.mode ∈ [Mode.empty, .loaded, .stopped, .still] → s.transport.path = none →
      exec c s = .next (State.finish o (if forward then { o with sensors.endActive := true }
        else { o with sensors.startActive := true })))) ∧
  (∀ (s : State) (forward : Bool) (p : Path), s.on = true → s.position.locate = none →
    (if forward then s.sensors.endActive else s.sensors.startActive) = false → s.transport.path = some p →
    (if forward then
      p.goal = .play ∨ p.goal = .resume ∨ p.goal = .search .forward ∨ (∃ v k, p.goal = .record v k) ∨
        (∃ e v b, p.goal = .progRecord e v b) ∨ ∃ e v, p.goal = .progSpeed e v
    else p.goal = .search .reverse ∨ p.goal = .wind .reverse) →
    s.transport.mode ∉ (if forward then [Mode.playing, .cue, .windFwd] else [.review, .windRev]) →
    s.transport.mode ≠ .recording → (s.transport.mode = .recordPause → s.transport.camMove = none) →
    let c := if forward then Instr.endSensorActive else .startSensorActive
    ∃ x, exec c s = .next (State.finish s.afterWrites x) ∧
      (if forward then x.sensors.endActive = true else x.sensors.startActive = true) ∧
      x.transport.mode = (if s.transport.mode = .recordPause then .stopped else s.transport.mode) ∧
      x.transport.order = none ∧ x.transport.camMove = s.transport.camMove ∧
      (s.transport.owner ≠ .manual →
        ∀ k, ⟨.transport, k⟩ ∈ x.presenter.pending → ⟨.transport, k⟩ ∈ s.presenter.pending) ∧
      (∀ n r, s.requests.transportLane = some n → s.requests.slots[n] = some r →
        (Config.slotBase n.val, finishBytes r .failed (if forward then .atEnd else .atStart) [])
          ∈ x.scratch.writes ∧ x.requests.transportLane = none) ∧
      (∀ e, s.transport.control = some e → .atEnd e ∈ x.scratch.notes) ∧
      (s.transport.mode ∈ [Mode.threading, .stopped, .still, .recordPause, .playing, .cue, .review, .windFwd,
          .windRev] → ∃ stage hf, x.transport.path = some ⟨.stop false, stage, hf, false⟩) ∧
      (s.transport.mode = .unthreading ∨ s.transport.mode = .ejecting →
        ∃ stage hf, x.transport.path = some ⟨.stop true, stage, hf, false⟩) ∧
      (s.transport.mode = .loaded → s.transport.camMove = none → p.houseFirst = false →
        x.transport.path = none) ∧
      (∀ m, s.transport.mode = .empty → s.transport.camMove = some m → m.target = .housed → m.up = true →
        x.transport.path = some ⟨.house, .cam, false, false⟩)) ∧
  (∀ (s : State) (e : Fin 16), s.on = true → s.sensors.endActive = false → s.transport.mode = .recording →
    s.transport.owner = .program e → s.transport.control = some e → s.transport.camMove = none →
    ∃ x, exec .endSensorActive s = .next (State.finish s.afterWrites x) ∧ x.sensors.endActive = true ∧
      x.transport.mode = .stopped ∧ x.transport.owner = .program e ∧ x.transport.control = some e ∧
      x.transport.order = none ∧ (∃ stage hf, x.transport.path = some ⟨.stop false, stage, hf, false⟩) ∧
      x.position.writer = .idle ∧ x.position.segment = none ∧ x.servo.reel = .off ∧
      (s.transport.stopLimit = none → x.servo.cap = .off) ∧ x.scheduler = s.scheduler ∧ x.tuner = s.tuner ∧
      ⟨.transport, 2⟩ ∈ x.presenter.pending ∧ x.scratch.notes = [.tapeEnd e] ∧
      (∀ n r, s.requests.transportLane = some n → s.requests.slots[n] = some r →
        (Config.slotBase n.val, finishBytes r .failed .atEnd []) ∈ x.scratch.writes ∧
        x.requests.transportLane = none)) ∧
  (∀ (s : State) (e : Fin 16) (r : RunCopy) (c : Note), s.run e = some r → r.role = .holder →
    c = .tapeEnd e ∨ c = .atEnd e →
    let y := s.handle c
    ((s.entry e).owned.state = .recording → (∀ m, m ≠ e → s.run m = none) →
      s.transport.owner ≠ .manual →
      y.run e = none ∧ (y.entry e).owned.outcome = r.report (outcomeCode r (.cause .tapeEnd)) ∧
      ⟨.program, e.val⟩ ∈ y.presenter.pending ∧ y.transport.control = none) ∧
    ((s.entry e).owned.state ≠ .recording →
      y.run e = some { r with miss := .tapeFull } ∧ (y.entry e).owned.state = .pending ∧
      y.tuner = s.tuner))

/-- R22, R23, R25: the still timer, the idle timer and the record countdown. The still timer's end leaves STILL or
RECORD_PAUSE for STOPPED with the pinch off and TRANSPORT/STILL_TIMEOUT, the request in flight SUPERSEDED and a
manual recording ended (R24), and the owner NONE where its entry is PENDING (log 50); the idle timer's begins the
unthreading; a minute is counted down, and the last one ends the recording with TRANSPORT/RECORD_END. R6: the
stop-motion stage is complete when both reels are still, or 2.0 s after the stop: the path is at its cam stage, and
the drum is off if the path does not run it. R6, R8, R9, R11 to R13: the path enters its mode and its request
finishes DONE: PLAYING, CUE, REVIEW and RECORDING when the servos report lock (RECORDING by the host with a new
start, the tuner taken and the countdown set), WIND when the reels drive; STILL and RECORD_PAUSE are entered as the
capstan is started toward HOLD (the model's choice, log 11). R6, R10, R27: a STOP ends at FULL in STOPPED, at the
arrival or with the cam there already; one taken in UNTHREADING or EJECTING ends at the position where the move
under way arrives, in LOADED, STOPPED (HALF; the model's reading, log 13) or EMPTY, there with the end of an eject
(the model's choice, log 36). Its request finishes DONE, the scheduler is told of a host stop and the order held is
dropped; without a request an order in flight starts again from there. R23, R26: an unthreading ends at HOUSED in
LOADED. -/
def Obligations.TransportTimers : Prop :=
  (∀ s : State, s.on = true →
     let o := s.afterWrites
     let superseded := fun x : State => ∀ n r, s.requests.transportLane = some n → s.requests.slots[n] = some r →
       (Config.slotBase n.val, finishBytes r .superseded .none []) ∈ x.scratch.writes ∧
         x.requests.transportLane = none
     (s.transport.still.isSome = true → s.transport.mode = .still ∨ s.transport.mode = .recordPause →
       ∃ x, exec .stillTimeout s = .next (State.finish o x) ∧ x.transport.mode = .stopped ∧
         x.transport.still = none ∧ (∃ stage hf, x.transport.path = some ⟨.stop false, stage, hf, false⟩) ∧
         ⟨.transport, 4⟩ ∈ x.presenter.pending ∧ superseded x ∧ x.transport.pinch = false ∧
         (s.transport.mode = .still ∨ s.transport.owner ≠ .manual → x.tuner = s.tuner) ∧
         (s.transport.mode = .still ∨ (s.transport.owner ≠ .manual ∧
             ∀ m, s.transport.owner = .program m → (s.entry m).owned.state ≠ .pending) →
           x.transport.owner = s.transport.owner) ∧
         (∀ m, s.transport.mode = .recordPause → s.transport.owner = .program m →
           (s.entry m).owned.state = .pending → x.transport.owner = .none) ∧
         (s.transport.mode = .recordPause → s.transport.owner = .manual →
           x.transport.owner = .none ∧ x.transport.countdown = none)) ∧
     (s.transport.idle.isSome = true → s.restsStopped = true → s.servo.moving = false →
       s.transport.stopLimit = none →
       ∃ x, exec .idleTimeout s = .next (State.finish o x) ∧ x.transport.idle = none ∧
         x.transport.path = some ⟨.unthread, .cam, false, false⟩ ∧ x.servo.drum = .off ∧
         x.tuner = s.tuner ∧ x.position = s.position) ∧
     (∀ q, s.transport.countdown = some q → 2 ≤ q.minutes →
       exec .recordCountdownMinute s = .next (State.finish o
         { o with transport.countdown := some ⟨q.minutes - 1, q.nextAt + 60 * Config.hz⟩ })) ∧
     (∀ q, s.transport.countdown = some q → ∀ c, c = .recordEnd ∨ (c = .recordCountdownMinute ∧ q.minutes ≤ 1) →
       s.transport.mode = .recording → s.transport.owner = .manual → s.transport.camMove = none →
       ∃ x, exec c s = .next (State.finish o x) ∧ x.transport.countdown = none ∧ x.transport.owner = .none ∧
         x.transport.mode = .stopped ∧ (∃ stage hf, x.transport.path = some ⟨.stop false, stage, hf, false⟩) ∧
         ⟨.transport, 5⟩ ∈ x.presenter.pending ∧ superseded x) ∧
     (s.transport.still = none → exec .stillTimeout s = .next (State.finish o o)) ∧
     (s.transport.countdown = none → exec .recordEnd s = .next (State.finish o o))) ∧
  (∀ (s : State) (p : Path), s.on = true → s.transport.path = some p →
     let o := s.afterWrites
     (p.stage = .stopping → ∀ c, c = .reelsStill ∨ (c = .stopMotionTimeout ∧ s.transport.stopLimit.isSome) →
       ∃ x, exec c s = .next (State.finish o x) ∧ x.transport.path = some { p with stage := .cam } ∧
         x.transport.stopLimit = none ∧ x.transport.mode = s.transport.mode ∧
         (p.goal.runsDrum = false → x.servo.drum = .off) ∧ (p.goal.runsDrum = true → x.servo = s.servo) ∧
         x.position = s.position ∧ x.tuner = s.tuner ∧ x.requests = s.requests) ∧
     (p.stage ≠ .stopping → exec .reelsStill s = .next (State.finish o o) ∧
       exec .stopMotionTimeout s = .next (State.finish o o))) ∧
  (∀ (s : State) (g : Goal) (n : Fin 16) (r : Request),
     s.transport.path = some ⟨g, .driving, false, false⟩ →
     s.requests.transportLane = some n → s.requests.tunerLane = none → s.requests.slots[n] = some r →
     s.position.locate = none →
     let done := fun x : State => s.pathStep = some x ∧ x.transport.path = none ∧
       (Config.slotBase n.val, finishBytes r .done .none []) ∈ x.scratch.writes ∧
       x.requests.transportLane = none ∧ ⟨.request, n.val⟩ ∈ x.presenter.pending
     (∀ e ∈ [(Goal.play, Mode.playing), (.search .forward, .cue), (.search .reverse, .review),
         (.resume, .recording)], g = e.1 → s.servo.capReached = true → ∃ x, done x ∧ x.transport.mode = e.2) ∧
     (g = .still ∨ g = .recPause → s.servo.capReached = true → ∃ x, done x ∧ x.transport.mode = s.transport.mode) ∧
     (∀ speed minutes, g = .record speed minutes → s.servo.capReached = true → s.tuner.owner ≠ .scan →
       ∃ x, done x ∧ x.transport.mode = .recording ∧ x.transport.owner = .manual ∧ x.tuner.owner = .record ∧
         x.tuner.holder = .manual ∧ x.position.writer = .writing 0 none none ∧
         x.transport.countdown
           = (if minutes = 0 then none else some ⟨minutes, s.timeBase + 60 * Config.hz⟩)) ∧
     (∀ d, g = .wind d → s.servo.reelReached = true → ∃ x, done x ∧ x.transport.mode = s.transport.mode)) ∧
  (∀ (s : State) (hf : Bool), s.transport.camMove = none → s.power.supply = .ready →
     (∀ d, s.transport.path = some ⟨.wind d, .cam, false, false⟩ → s.sensors.cam = .at .half →
       s.servo.reel = .off →
       ∃ x, s.pathStep = some x ∧ x.transport.path = some ⟨.wind d, .driving, false, false⟩ ∧
         x.transport.mode = (match d with | .forward => .windFwd | .reverse => .windRev) ∧
         x.servo.reel = (match d with | .forward => .forward | .reverse => .reverse) ∧
         x.servo.reelReached = false ∧ x.transport.stall = some (s.timeBase + Config.stallLimit)) ∧
     (∀ e ∈ [(Goal.still, Mode.still), (.recPause, .recordPause)],
       s.transport.path = some ⟨e.1, .drive, hf, false⟩ → s.transport.mode ≠ e.2 → s.servo.drum = .phaseLocked →
       s.servo.capTarget ≠ .hold →
       ∃ x, s.pathStep = some x ∧ x.transport.path = some ⟨e.1, .driving, hf, false⟩ ∧ x.transport.mode = e.2 ∧
         x.transport.still = some (s.timeBase + Config.stillLimit) ∧ x.servo.capTarget = .hold ∧
         x.servo.capDeadline = some ⟨.capstanHold, s.timeBase + Config.capstanDeadline⟩ ∧
         x.transport.stall = none ∧ x.transport.pinch = true)) ∧
  (∀ s : State,
     let stopped := fun (p : CamPos) (x : State) =>
       x.transport.mode = restMode p ∧ x.sensors.cam = .at p ∧ x.transport.camMove = none ∧
       (∀ n r, s.requests.transportLane = some n → s.requests.slots[n] = some r →
         x.transport.path = none ∧ x.transport.order = none ∧ x.requests.transportLane = none ∧
         (Config.slotBase n.val, finishBytes r .done .none []) ∈ x.scratch.writes ∧
         ⟨.request, n.val⟩ ∈ x.presenter.pending ∧
         ∀ e, s.transport.control = some e → .hostStop e ∈ x.scratch.notes) ∧
       (s.requests.transportLane = none → x.requests = s.requests ∧
         (s.transport.order = none → x.transport.path = none) ∧
         (∀ q, s.transport.order = some q →
           ∃ stage hf, x.transport.path = some ⟨q.goal false, stage, hf, true⟩))
     let begins := fun y : State => State.finish s.afterWrites y
     (s.transport.path = some ⟨.stop false, .cam, false, false⟩ →
       s.transport.mode ∈ [Mode.stopped, .threading] →
       (s.transport.camMove = none → s.sensors.cam = .at .full →
         ∃ x, s.pathStep = some x ∧ stopped .full x) ∧
       (∀ m, s.on = true → s.transport.camMove = some m → m.target = .full →
         ∃ y x, exec (.camMoveArrival .full) s = .next (begins y) ∧ y.inner = some x ∧ stopped .full x)) ∧
     (∀ m, s.on = true → s.transport.camMove = some m → m.target ∈ [CamPos.half, .housed, .eject] →
       m.up = false → s.transport.path = some ⟨.stop true, .waitMove, false, false⟩ →
       s.transport.mode = .unthreading ∨ s.transport.mode = .ejecting → s.position.locate = none →
       s.transport.stopLimit = none → s.servo.moving = false →
       ∃ y z x, exec (.camMoveArrival m.target) s = .next (begins y) ∧ y.inner = some z ∧
         z.inner = some x ∧ stopped m.target x ∧ z.servo.drum = .off ∧
         (m.target = .eject → ⟨.transport, 1⟩ ∈ y.presenter.pending ∧ y.position.map = [])) ∧
     (∀ m, s.on = true → s.transport.camMove = some m → m.target = .housed → m.up = false →
       s.transport.path = some ⟨.unthread, .cam, false, false⟩ → s.transport.mode = .unthreading →
       ∃ y, exec (.camMoveArrival .housed) s = .next (begins y) ∧
         y.inner = some { y with transport.path := none, transport.mode := .loaded } ∧
         y.sensors.cam = .at .housed ∧ y.transport.camMove = none ∧ y.requests = s.requests))

/-! ### Servo, tape, remaining -/

/-- R30, R31: a drum revolution, by the drum's state and its runs of successive revolutions. Only the servo's
drum changes. Where one revolution completes the run of its period and that of its phase, the period's row acts
(the model's choice, log 51). -/
def Obligations.DrumRevolutions : Prop :=
  ∀ (s : State) (period : Nat) (phase : Int), s.on = true →
    let o := s.afterWrites
    let inBand := 39200 ≤ period ∧ period ≤ 40800
    let inPhase := -1000 ≤ phase ∧ phase ≤ 1000
    ∃ v, exec (.drumRevolution period phase) s = .next (State.finish o { o with servo := v }) ∧
      (s.servo.drum = .off → v = s.servo) ∧
      (s.servo.drum = .spinningUp → inBand → s.servo.drumRuns.bandIn = 3 → v.drum = .speedLocked) ∧
      (s.servo.drum = .spinningUp → inBand → s.servo.drumRuns.bandIn < 3 →
        v.drum = .spinningUp ∧ v.drumRuns.bandIn = s.servo.drumRuns.bandIn + 1) ∧
      (s.servo.drum = .spinningUp → ¬inBand → v.drum = .spinningUp ∧ v.drumRuns.bandIn = 0) ∧
      (s.servo.drum = .speedLocked → inBand → inPhase → s.servo.drumRuns.phaseIn = 7 →
        v.drum = .phaseLocked ∧ v.drumLocked = true ∧ v.drumDeadline = none) ∧
      (s.servo.drum = .speedLocked → inBand → inPhase → s.servo.drumRuns.phaseIn < 7 →
        v.drum = .speedLocked ∧ v.drumRuns.phaseIn = s.servo.drumRuns.phaseIn + 1) ∧
      (s.servo.drum = .speedLocked → ¬inBand → s.servo.drumRuns.bandOut = 3 → v.drum = .spinningUp) ∧
      (s.servo.drum = .phaseLocked → ¬inBand → s.servo.drumRuns.bandOut = 3 →
        v.drum = .spinningUp ∧
          v.drumDeadline = some ⟨.drumRelock, s.timeBase + Config.drumDeadline⟩) ∧
      (s.servo.drum = .phaseLocked → inBand → ¬inPhase → s.servo.drumRuns.phaseOut = 3 →
        v.drum = .speedLocked ∧
          v.drumDeadline = some ⟨.drumRelock, s.timeBase + Config.drumDeadline⟩) ∧
      (s.servo.drum = .phaseLocked → inBand → inPhase → v.drum = .phaseLocked) ∧
      v = { s.servo with
        drum := v.drum, drumRuns := v.drumRuns, drumLocked := v.drumLocked, drumDeadline := v.drumDeadline }

/-- R32, R33, R38, R40: what the capstan reports: held still on the way to HOLD, the eighth reference period in the
window, the fourth outside it, the eighth tachometer period at search speed, control pulses absent (in SPEED on
CONTROL as in PHASE: the model's choice, log 54). R37: a loss of PHASE ends the run of mismatches. R43: the trials of
the auto search. A coarse trial below +56 is followed by the one 8 steps higher, with the better offset kept; the
last one by the fine trial above the best; that one by the trial below; then the search ends on the best where
neither neighbour beats it, and else goes on to the side of the better one, upward where both are equal, for at most
7 steps in the range while each trial beats the best; without a search the end of a trial does nothing. R36, R37: a
control pulse in a full detection: eight intervals of one class settle it, set the play speed and put the reference
on CONTROL; one of another class begins a run of 1, one of no class a run of 0. In a confirming detection eight
matching intervals end it at the play speed set, and eight mismatched ones begin a full detection; so do eight in
PLAYING in PHASE on CONTROL. -/
def Obligations.CapstanAndAutoSearch : Prop :=
  (∀ (s : State) (d : Dir) (period : Nat), s.on = true →
     let o := s.afterWrites
     (s.servo.holdAt.isSome = true → exec .capstanHeld s = .next (State.finish o { o with servo :=
       { s.servo with cap := .stoppedHeld, holdAt := none, capReached := true, capDeadline := none } })) ∧
     (s.servo.holdAt = none → exec .capstanHeld s = .next (State.finish o o)) ∧
     (s.servo.capRef ≠ .none → s.servo.cap = .speed → s.servo.capIn = 7 → s.servo.detection = .none →
       exec (.capstanReferencePeriod true) s = .next (State.finish o { o with servo :=
         { s.servo with cap := .phase, capReached := true, capIn := 0, capOut := 0, capDeadline := none } })) ∧
     (s.servo.capRef ≠ .none → s.servo.cap = .phase → s.servo.capOut = 3 →
       exec (.capstanReferencePeriod false) s = .next (State.finish o { o with servo :=
         { s.servo with
             cap := .speed, capIn := 0, capOut := 0, mismatchRun := 0
             capDeadline := some ⟨.capstanRelock, s.timeBase + Config.capstanDeadline⟩ } })) ∧
     (s.servo.capRef ≠ .none → s.servo.cap = .phase →
       exec (.capstanReferencePeriod true) s
         = .next (State.finish o { o with servo := { s.servo with capOut := 0 } })) ∧
     (s.servo.capRef = .none → ∀ b, exec (.capstanReferencePeriod b) s = .next (State.finish o o)) ∧
     (s.servo.capTarget = .search d → s.servo.capReached = false → s.servo.searchRun = 7 →
       980 * s.servo.searchSpeed.factor ≤ 3 * period → 3 * period ≤ 1020 * s.servo.searchSpeed.factor →
       s.position.locate = none → s.position.detector = none →
       ∃ x, exec (.capstanTachPulse d period) s = .next (State.finish o x) ∧
         x.servo = { s.servo with searchRun := 0, capReached := true, capDeadline := none } ∧
         x.transport = s.transport) ∧
     (s.servo.capTarget = .hold → s.servo.holdAt.isSome = true →
       s.transport.mode ≠ .playing → s.transport.mode ≠ .cue → s.transport.mode ≠ .review →
       exec (.capstanTachPulse d period) s = .next (State.finish o { o with servo :=
         { s.servo with holdAt := some (s.timeBase + Config.holdQuiet) } })) ∧
     (s.servo.absentAt.isSome = true → ∃ v,
       exec .controlPulsesAbsent s = .next (State.finish o { o with servo := v }) ∧
         v.blank = true ∧ v.absentAt = none ∧ v.capRef = .internal ∧ v.detection = .none ∧
         (∀ q n, s.servo.detection = .full q n → v.playSpeed = .standard) ∧
         ((∀ q n, s.servo.detection ≠ .full q n) → v.playSpeed = s.servo.playSpeed) ∧ v.cap = s.servo.cap)) ∧
  (∀ (s : State) (envelope : Nat), s.on = true →
     let o := s.afterWrites
     (s.servo.auto = .idle ∨ s.servo.auto = .pending →
       exec (.autoSearchTrialEnd envelope) s = .next (State.finish o o)) ∧
     (∀ q, s.servo.auto = .coarse q → ∃ v best,
       exec (.autoSearchTrialEnd envelope) s = .next (State.finish o { o with servo := v }) ∧
       (q.best = none → best = (q.trial, envelope)) ∧
       (∀ b e, q.best = some (b, e) → e < envelope → best = (q.trial, envelope)) ∧
       (∀ b e, q.best = some (b, e) → envelope < e → best = (b, e)) ∧
       (∀ b e, q.best = some (b, e) → envelope = e → b.natAbs < q.trial.natAbs → best = (b, e)) ∧
       (∀ b e, q.best = some (b, e) → envelope = e → q.trial.natAbs < b.natAbs →
         best = (q.trial, envelope)) ∧
       (q.trial < 56 → v = { s.servo with
         tracking := q.trial + 8, auto := .coarse ⟨q.start, some best, q.trial + 8⟩ }) ∧
       (56 ≤ q.trial → v = { s.servo with
         tracking := clampInt (-63) 63 (best.1 + 1)
         auto := .fine ⟨q.start, some best, clampInt (-63) 63 (best.1 + 1)⟩ best.1 .above })) ∧
     (∀ q coarse stage b e, s.servo.auto = .fine q coarse stage → q.best = some (b, e) → -56 ≤ coarse → coarse ≤ 56 →
       ∃ v, exec (.autoSearchTrialEnd envelope) s = .next (State.finish o { o with servo := v }) ∧
         let ends := fun best : Int => v = { s.servo with tracking := best, auto := .idle }
         let tries := fun (best : Int × Nat) (offset : Int) (stage : FineStage) =>
           v = { s.servo with tracking := offset, auto := .fine ⟨q.start, some best, offset⟩ coarse stage }
         (stage = .above → tries (b, e) (coarse - 1) (.below envelope)) ∧
         (∀ up, stage = .below up →
           (up ≤ e → envelope ≤ e → ends b) ∧
           (e < up → envelope ≤ up → tries (coarse + 1, up) (coarse + 2) (.stepping true 2)) ∧
           (up < envelope → e < envelope → tries (q.trial, envelope) (coarse - 2) (.stepping false 2))) ∧
         (∀ up steps, stage = .stepping up steps →
           let offset := if up then coarse + (steps + 1) else coarse - (steps + 1)
           (envelope ≤ e → ends b) ∧
           (e < envelope → 7 ≤ steps ∨ offset < -63 ∨ 63 < offset → ends q.trial) ∧
           (e < envelope → steps < 7 → -63 ≤ offset → offset ≤ 63 →
             tries (q.trial, envelope) offset (.stepping up (steps + 1)))))) ∧
  (∀ (s : State) (d : Dir) (altered : Bool) (us : Nat), s.on = true → s.position.locate = none →
     let v : Servo := { s.servo with absentAt := s.servo.absentAt.map fun _ => s.timeBase + Config.pulsesAbsent }
     let matches_ := 32000 ≤ us ∧ us ≤ 48000
     let class_ : Option Speed :=
       if 32000 ≤ us ∧ us ≤ 48000 then some .standard
       else if 16000 ≤ us ∧ us ≤ 24000 then some .long
       else if 10700 ≤ us ∧ us < 16000 then some .extended
       else none
     let anew := fun t : Servo => t.detection = .full none 0 ∧ t.cap = .speed ∧ t.capRef = .none ∧
       t.capDeadline = some ⟨.capstanLock, s.timeBase + Config.capstanDeadline⟩ ∧
       t.playSpeed = s.servo.playSpeed ∧ t.capTarget = s.servo.capTarget ∧ t.tracking = s.servo.tracking
     ∃ x, exec (.controlPulse d altered us) s = .next (State.finish s.afterWrites x) ∧
       x.transport = s.transport ∧
       (∀ run n, s.servo.detection = .full run n →
         (class_ = none → x.servo = { v with detection := .full none 0 }) ∧
         (∀ q, class_ = some q →
           (run = some q → 7 ≤ n → x.servo
             = { v with playSpeed := q, detection := .none, capRef := .control, capIn := 0 }) ∧
           (run = some q → n < 7 → x.servo = { v with detection := .full (some q) (n + 1) }) ∧
           (run ≠ some q → x.servo = { v with detection := .full (some q) 1 }))) ∧
       (∀ hits misses, s.servo.detection = .confirm hits misses →
         (matches_ → 7 ≤ hits → x.servo = { v with detection := .none }) ∧
         (matches_ → hits < 7 → x.servo = { v with detection := .confirm (hits + 1) 0 }) ∧
         (¬matches_ → misses < 7 → x.servo = { v with detection := .confirm 0 (misses + 1) }) ∧
         (¬matches_ → 7 ≤ misses → anew x.servo)) ∧
       (s.servo.detection = .none → s.transport.mode = .playing → s.servo.capTarget = .play →
         s.servo.blank = false → s.servo.cap = .phase → s.servo.capRef = .control →
         (matches_ → x.servo = { v with mismatchRun := 0 }) ∧
         (¬matches_ → s.servo.mismatchRun < 7 →
           x.servo = { v with mismatchRun := s.servo.mismatchRun + 1 }) ∧
         (¬matches_ → 7 ≤ s.servo.mismatchRun → anew x.servo)) ∧
       (s.servo.detection = .none → s.servo.capTarget ≠ .play ∨ s.transport.mode ≠ .playing → x.servo = v))

/-- R46, R49, R52: a control pulse: the counter moves by one in the direction of motion, held at its limits, the
source becomes READ, the gap count and the residues 0. With no run of the mark detector and outside RECORDING, an
altered pulse begins a run at its position, the greater of the two counter values, and any other changes nothing
else of the position unit. R50, R53 to R56: a control pulse written in RECORDING: the first frame of a mark enters
the map at the pulse's position and becomes the segment entry; each later one, up to the fiftieth, goes on with the
mark; without a mark the entries at the position go, but for the segment entry. A mark becomes a WRITTEN entry at
its position, or merges into the nearest entry within 100 frames; with 24 entries and none near, MAP_FULL is set and
no entry is made; of two entries at one distance the lower is taken, and a SEEN mark leaves the entry it merges
into. R52, R54: a further altered pulse in the run's direction lengthens it; a normal pulse ends it, and an altered
one in the other direction too and begins a new one; a run of 32 or more enters a SEEN mark at its lowest position,
a shorter one is dropped. R47: a tachometer pulse over blank tape adds 1 to the gap count, at the limit 72 ÷ m the
counter moves by 3 frames, ESTIMATED, and the count stops; from then on each 24 ÷ m pulses in one direction move it
by one. That each pulse is compared with the limits of the factor then in force, also with the count already past
them or stopped under another factor, is the model's choice (log 40), and so is that a gap count not stopped fills
first where a wind left ESTIMATED or a start kept it, and that the last pulse gives the direction (log 55). -/
def Obligations.ControlPulsesAndMarks : Prop :=
  (∀ (s : State) (d : Dir) (altered : Bool) (us : Nat), s.on = true → s.position.locate = none →
     s.position.detector = none →
     let c := clampInt (-899999) 899999 (s.position.counter + (if d = .forward then 1 else -1))
     let pos := max s.position.counter c
     let counted : Position := { s.position with
       counter := c, source := .read, gap := 0, gapStopped := false, residue := 0, windResidue := 0
       pulseSinceRev := true }
     ∃ x, exec (.controlPulse d altered us) s = .next (State.finish s.afterWrites x) ∧
       x.position.counter = c ∧ x.position.source = .read ∧ x.position.gap = 0 ∧
       x.position.residue = 0 ∧ x.position.windResidue = 0 ∧
       (s.transport.mode ≠ .recording → x.position = { counted with
         detector := if altered then some ⟨d, 1, pos, false⟩ else none }) ∧
       (s.transport.mode = .recording →
         (s.position.writer = .idle → x.position = { counted with map := x.position.map }) ∧
         (s.position.writer = .idle →
           (∀ e, e ∈ x.position.map ↔ e ∈ s.position.map ∧
             (e.position ≠ pos ∨ s.position.segment = some e.position))) ∧
         (∀ program mark, s.position.writer = .writing 0 program mark →
           let entered := s.position.enterMark pos .written program
           x.position = { counted with
             map := entered.1.map, mapFull := entered.1.mapFull, segment := entered.2
             writer := .writing 1 program entered.2 } ∧
           (entered.2.isSome = true → 7 ∈ x.scratch.touched)) ∧
         (∀ count program mark, s.position.writer = .writing count program mark → 1 ≤ count →
           x.position = { counted with
             map := x.position.map
             writer := if count < 49 then .writing (count + 1) program mark else .idle })) ∧
       x.transport = s.transport ∧ x.tuner = s.tuner ∧ x.requests = s.requests ∧ x.scratch.notes = []) ∧
  (∀ (p : Position) (pos : Int) (program : Option (Fin 16)),
     let t := p.enterMark pos .written program
     ((∀ e ∈ p.map, 100 ≤ (e.position - pos).natAbs) → p.map.length < 24 →
       t.2 = some pos ∧ (∀ e, e ∈ t.1.map ↔ e = ⟨pos, .written, program⟩ ∨ e ∈ p.map) ∧
         t.1.mapFull = p.mapFull) ∧
     ((∀ e ∈ p.map, 100 ≤ (e.position - pos).natAbs) → 24 ≤ p.map.length →
       t.2 = none ∧ t.1.map = p.map ∧ t.1.mapFull = true) ∧
     (∀ e ∈ p.map, (e.position - pos).natAbs < 100 →
       (∀ f ∈ p.map, f ≠ e → (e.position - pos).natAbs < (f.position - pos).natAbs) →
       t.2 = some e.position ∧ t.1.mapFull = p.mapFull ∧ t.1.map.length = p.map.length ∧
         ⟨e.position, .written, program⟩ ∈ t.1.map) ∧
     (p.map.Pairwise (fun e f => e.position < f.position) →
       ∀ e ∈ p.map, ∀ f ∈ p.map, e.position < f.position → (e.position - pos).natAbs < 100 →
       (e.position - pos).natAbs = (f.position - pos).natAbs →
       (∀ g ∈ p.map, (e.position - pos).natAbs ≤ (g.position - pos).natAbs) →
       t.2 = some e.position ∧ ⟨e.position, .written, program⟩ ∈ t.1.map ∧ f ∈ t.1.map ∧
         t.1.map.length = p.map.length) ∧
     (∀ seen, seen = (p.enterMark pos .seen none).1 →
       ((∃ e ∈ p.map, (e.position - pos).natAbs < 100) → seen = p) ∧
       ((∀ e ∈ p.map, 100 ≤ (e.position - pos).natAbs) → p.map.length < 24 →
         seen.mapFull = p.mapFull ∧ ∀ e, e ∈ seen.map ↔ e = ⟨pos, .seen, none⟩ ∨ e ∈ p.map))) ∧
  (∀ (s : State) (d : Dir) (altered : Bool) (us : Nat) (run : MarkRun), s.on = true → s.position.locate = none →
     s.position.detector = some run → s.transport.mode ≠ .recording →
     let c := clampInt (-899999) 899999 (s.position.counter + (if d = .forward then 1 else -1))
     let pos := max s.position.counter c
     let counted : Option MarkRun → Position := fun r => { s.position with
       counter := c, source := .read, gap := 0, gapStopped := false, residue := 0, windResidue := 0
       pulseSinceRev := true, detector := r }
     let next : Option MarkRun := if altered then some ⟨d, 1, pos, false⟩ else none
     let entered := ((counted none).enterMark run.lowest .seen none).1
     ∃ x, exec (.controlPulse d altered us) s = .next (State.finish s.afterWrites x) ∧
       (altered = true → run.dir = d →
         x.position = counted (some { run with length := run.length + 1, lowest := min run.lowest pos })) ∧
       (altered = false ∨ run.dir ≠ d → run.length < 32 → x.position = counted next ∧ x.scratch.touched = []) ∧
       (altered = false ∨ run.dir ≠ d → 32 ≤ run.length → x.position = { entered with detector := next } ∧
         ((∃ e ∈ entered.map, (e.position - run.lowest).natAbs < 100) → 7 ∈ x.scratch.touched)) ∧
       x.transport = s.transport ∧ x.tuner = s.tuner ∧ x.requests = s.requests) ∧
  (∀ (p : Position) (d : Dir) (m : Nat), 1 ≤ m → m ≤ 3 →
     let moved := fun k : Int => clampInt (-899999) 899999 (p.counter + (if d = .forward then k else -k))
     let held := if p.residue = 0 ∨ p.residueDir = d then p.residue + 1 else 1
     (p.source = .estimated → p.gapStopped = true →
       (held < 24 / m → p.tachPulse d m = { p with residue := held, residueDir := d }) ∧
       (24 / m ≤ held → p.tachPulse d m = { p with counter := moved 1, residue := 0, residueDir := d })) ∧
     (p.gapStopped = false → p.gap + 1 < 72 / m → p.tachPulse d m = { p with gap := p.gap + 1 }) ∧
     (p.gapStopped = false → 72 / m ≤ p.gap + 1 → p.tachPulse d m
       = { p with counter := moved 3, source := .estimated, gap := 72 / m, gapStopped := true }))

/-- R19, R41, R65: a rotation pulse of the receiving reel (before the mode is entered, the one the drive's direction
gives: log 76) restarts the stall timer, and in a wind it reports "reels driving"; a pulse of the supply reel leaves
the position unit as it is. R48: a take-up revolution in which a control pulse came starts the wind residue afresh; one
without, in a wind, moves the counter by what the take-up measurement gives, with the source ESTIMATED, or HELD without
a measurement, and out of a wind changes nothing; the factor is the one in force, on a path toward RECORDING the record
speed's (the model's reading, log 65). R67, R76: the revolution that leaves READ records no measurement. That a
revolution of either reel in which no control pulse came records nothing, so that the measurements and the fraction
stay, also where the source is READ throughout, is the model's reading (log 67). -/
def Obligations.ReelRotationPulses : Prop :=
  ∀ (s : State) (r : Reel) (us : Nat), s.on = true → s.position.locate = none → s.position.detector = none →
    ∃ x, exec (.reelRotationPulse r us) s = .next (State.finish s.afterWrites x) ∧
      (s.receivingReel = some r → s.transport.stall.isSome = true →
        x.transport = { s.transport with stall := some (s.timeBase + Config.stallLimit) }) ∧
      (s.receivingReel ≠ some r → x.transport = s.transport ∧ x.servo.reelReached = s.servo.reelReached) ∧
      (s.servo.reel = .forward → r = .takeUp → x.servo = { s.servo with reelReached := true }) ∧
      (s.servo.reel = .reverse → r = .supply → x.servo = { s.servo with reelReached := true }) ∧
      (r = .supply → x.position = s.position) ∧
      (r = .takeUp → s.position.pulseSinceRev = true →
        x.position = { s.position with windResidue := 0, pulseSinceRev := false }) ∧
      (r = .takeUp → s.position.pulseSinceRev = false → s.servo.reel = .off → s.transport.mode ≠ .windFwd →
        s.transport.mode ≠ .windRev → x.position = s.position) ∧
      (∀ d : Dir, r = .takeUp → s.position.pulseSinceRev = false →
        s.transport.mode = (match d with | .forward => .windFwd | .reverse => .windRev) →
        (s.remaining.ku = none → x.position = { s.position with source := .held }) ∧
        (∀ k, s.remaining.ku = some k →
          let total := s.position.windResidue + k.value * s.factor.getD 1
          x.position = { s.position with
            counter := clampInt (-899999) 899999 (s.position.counter
              + (match d with | .forward => 1 | .reverse => -1) * (total / (16 * k.factor) : Nat))
            source := .estimated, windResidue := total % (16 * k.factor) }) ∧
        (s.position.source = .read →
          x.remaining.ku = s.remaining.ku ∧ x.remaining.fraction = s.remaining.fraction)) ∧
      (∀ v, s.remaining.revolution r = some v → v.count = 0 →
        x.remaining.ks = s.remaining.ks ∧ x.remaining.ku = s.remaining.ku ∧
          x.remaining.fraction = s.remaining.fraction) ∧
      x.tuner = s.tuner ∧ x.requests = s.requests

/-- R69: the measurements are brought to STANDARD pitch by their own factors, halves rounded up; while the other
reel's measurement is invalid the fraction, the minutes and the last result stay; otherwise the computation is made
in the event that records the measurement. That a revolution of either reel in which no control pulse came records
nothing, also with the source READ, is the model's reading (log 67). -/
def Obligations.MeasurementsAreNormalised : Prop :=
  (∀ m : Measure, 1 ≤ m.factor → m.factor ≤ 3 → m.value ≤ 8191 →
    m.normal ≤ 8191 ∧ 2 * m.factor * m.normal ≤ 2 * m.value + m.factor ∧
      2 * m.value + m.factor < 2 * m.factor * (m.normal + 1)) ∧
  (∀ r : Remaining, r.ks = none ∨ r.ku = none → r.compute = (r, false)) ∧
  (∀ (r : Remaining) (reel : Reel) (us m : Nat) (read : Bool) (v : Revolution),
    r.revolution reel = some v →
    let q := r.setRevolution reel (r.opening us read)
    let t := (r.reelPulse reel us (some m) read).1
    (v.count = 0 → r.reelPulse reel us (some m) read = (q, .nothing)) ∧
    (v.count ≠ 0 → v.measure (r.phase us).1 (r.phase us).2 ≤ 8191 →
      t = (q.record reel ⟨v.measure (r.phase us).1 (r.phase us).2, m⟩).compute.1 ∧
        ((match reel with | .supply => r.ku | .takeUp => r.ks) = none →
          t = q.record reel ⟨v.measure (r.phase us).1 (r.phase us).2, m⟩ ∧ t.fraction = r.fraction ∧
          t.rS = r.rS ∧ t.rL = r.rL ∧ t.rE = r.rE ∧ t.last = r.last ∧ t.mInUse = r.mInUse))) ∧
  Measure.normal ⟨6400, 2⟩ = 3200 ∧ Measure.normal ⟨7681, 3⟩ = 2560 ∧ Measure.normal ⟨6401, 2⟩ = 3201

/-- R70: the fraction. With both measurements valid, num and den are formed from As and Au; with den 0 or less the
computation is INCONCLUSIVE and F and the minutes stay; otherwise F is the floor of 1,024 num / den, at most 1,024,
and the last result VALUE. F is 1,024 where Au is Hs or below and 0 where As is Hs or below, and depends on As and
Au only. F 0 and the end sensor are what the scheduler counts as the tape being full. -/
def Obligations.TheFractionOfTheTape : Prop :=
  (∀ (r : Remaining) (ks ku : Measure), r.ks = some ks → r.ku = some ku →
    let as := ks.normal
    let au := ku.normal
    let num : Int := if as < 1360 then 0 else (as : Int) * as - 1849600
    let den : Int := (as : Int) * as + (au : Int) * au - 2 * 1849600
    (den ≤ 0 → r.compute = ({ r with last := .inconclusive }, false)) ∧
    (0 < den → ∃ f : Nat, (f : Int) = min 1024 (1024 * num / den) ∧ r.compute.2 = true ∧
      r.compute.1.fraction = some f ∧ r.compute.1.last = .value ∧ (au ≤ 1360 → f = 1024) ∧
      (as ≤ 1360 → f = 0))) ∧
  (∀ (r q : Remaining) (a b c d : Measure), r.ks = some a → r.ku = some b → q.ks = some c → q.ku = some d →
    a.normal = c.normal → b.normal = d.normal → r.compute.2 = true →
    q.compute.1.fraction = r.compute.1.fraction) ∧
  (∀ s : State, s.transport.mode ≠ .faultHold → s.transport.mode ≠ .empty → s.transport.mode ≠ .ejecting →
    s.sensors.tabPresent = true → s.sensors.dew = false →
    (s.blocker = some .tapeFull ↔ s.remaining.fraction = some 0 ∨ s.sensors.endActive = true))

/-- R71: the minutes at each speed. A computation that gives VALUE sets them from F and the length in use: UNKNOWN
for length 0, else the floor of M F m / 1,024, at most M m. A computation that does not leaves F and the minutes. A
new length in use recomputes them from the F in force, UNKNOWN where F is. The rows of the rule's table hold. -/
def Obligations.TheMinutesRemaining : Prop :=
  (∀ r : Remaining, r.compute.2 = true →
    ∃ f, f ≤ 1024 ∧ r.compute.1.fraction = some f ∧
      (r.mInUse = 0 → r.compute.1.rS = none ∧ r.compute.1.rL = none ∧ r.compute.1.rE = none) ∧
      (r.mInUse ≠ 0 → r.compute.1.rS = some (r.mInUse * f * 1 / 1024) ∧
        r.compute.1.rL = some (r.mInUse * f * 2 / 1024) ∧ r.compute.1.rE = some (r.mInUse * f * 3 / 1024) ∧
        r.mInUse * f * 1 / 1024 ≤ r.mInUse * 1 ∧ r.mInUse * f * 2 / 1024 ≤ r.mInUse * 2 ∧
        r.mInUse * f * 3 / 1024 ≤ r.mInUse * 3)) ∧
  (∀ r : Remaining, r.compute.2 = false →
    r.compute.1.fraction = r.fraction ∧ r.compute.1.rS = r.rS ∧ r.compute.1.rL = r.rL ∧
      r.compute.1.rE = r.rE) ∧
  (∀ (r : Remaining) (m : Nat), m ≠ r.mInUse →
    (r.setLength m).2 = true ∧ (r.setLength m).1.mInUse = m ∧ (r.setLength m).1.fraction = r.fraction ∧
      (r.fraction = none ∨ m = 0 → (r.setLength m).1.rS = none ∧ (r.setLength m).1.rL = none ∧
        (r.setLength m).1.rE = none) ∧
      (∀ f, r.fraction = some f → m ≠ 0 → (r.setLength m).1.rS = some (m * f * 1 / 1024) ∧
        (r.setLength m).1.rL = some (m * f * 2 / 1024) ∧ (r.setLength m).1.rE = some (m * f * 3 / 1024))) ∧
  (minutesLeft 180 (some 1024) 1 = some 180 ∧ minutesLeft 180 (some 656) 1 = some 115 ∧
    minutesLeft 180 (some 656) 2 = some 230 ∧ minutesLeft 180 (some 656) 3 = some 345 ∧
    minutesLeft 180 (some 1024) 2 = some 360 ∧ minutesLeft 180 (some 1024) 3 = some 540 ∧
    minutesLeft 180 (some 6) 1 = some 1 ∧ minutesLeft 180 (some 6) 2 = some 2 ∧
    minutesLeft 180 (some 6) 3 = some 3 ∧ minutesLeft 180 (some 5) 1 = some 0 ∧
    minutesLeft 180 (some 5) 2 = some 1 ∧ minutesLeft 180 (some 5) 3 = some 2 ∧
    minutesLeft 180 (some 0) 1 = some 0 ∧ minutesLeft 180 (some 0) 3 = some 0)

/-! ### Tuner -/

/-- R79, R80: lock, its loss, the lock limit and the sync detector. A lock report in ACQUIRING or NO_LOCK makes
the signal LOCKED or SYNC and stops the limit; a loss in LOCKED or SYNC, and the limit's end in ACQUIRING, LOCKED
or SYNC, make it NO_LOCK with TUNER/PLL; the sync detector moves it between LOCKED and SYNC. A lock report in
LOCKED or SYNC stops the limit and leaves the state, and a limit that runs out in NO_LOCK is stopped; any other report
outside its states changes nothing, a lock report with nothing tuned among them (the model's choice, log 15). No scan is
under way. -/
def Obligations.LockAndSyncReports : Prop :=
  ∀ (s : State) (sync : Bool), s.on = true → s.tuner.scan = none → s.requests.tunerLane = none →
    let o := s.afterWrites
    let leave := fun (d : Decoder) => if s.tuner.signal = .sync then { d with pendingRec := none } else d
    let pll := fun (x : State) => ⟨.tuner, 0⟩ ∈ x.presenter.pending ∧ x.clock = s.clock ∧
      x.transport = s.transport ∧ x.scratch.notes = [] ∧ x.decoder = leave s.decoder
    (s.tuner.base.isSome = true → s.tuner.signal = .acquiring ∨ s.tuner.signal = .noLock →
      exec (.synthLock sync) s = .next (State.finish o { o with tuner := { s.tuner with
        lockLimit := none, aftReady := true, signal := if sync then .sync else .locked } })) ∧
    (s.tuner.base.isSome = true → s.tuner.signal = .locked ∨ s.tuner.signal = .sync →
      exec (.synthLock sync) s = .next (State.finish o { o with tuner := { s.tuner with lockLimit := none } })) ∧
    (s.tuner.lockLimit.isSome = true → s.tuner.signal = .noLock →
      exec .lockLimitExpiry s = .next (State.finish o { o with tuner := { s.tuner with lockLimit := none } })) ∧
    (s.tuner.base = none → exec (.synthLock sync) s = .next (State.finish o o)) ∧
    (s.tuner.signal = .locked ∨ s.tuner.signal = .sync →
      ∃ x, exec .synthLockLoss s = .next (State.finish o x) ∧
        x.tuner = { s.tuner with signal := .noLock } ∧ pll x) ∧
    (s.tuner.signal ≠ .locked → s.tuner.signal ≠ .sync →
      exec .synthLockLoss s = .next (State.finish o o)) ∧
    (s.tuner.lockLimit.isSome = true →
      s.tuner.signal = .acquiring ∨ s.tuner.signal = .locked ∨ s.tuner.signal = .sync →
      ∃ x, exec .lockLimitExpiry s = .next (State.finish o x) ∧
        x.tuner = { s.tuner with lockLimit := none, signal := .noLock } ∧ pll x) ∧
    (s.tuner.lockLimit = none → exec .lockLimitExpiry s = .next (State.finish o o)) ∧
    (s.tuner.signal = .locked →
      exec .syncPresent s = .next (State.finish o { o with tuner := { s.tuner with signal := .sync } }) ∧
      exec .syncAbsent s = .next (State.finish o o)) ∧
    (s.tuner.signal = .sync → exec .syncPresent s = .next (State.finish o o) ∧
      exec .syncAbsent s = .next (State.finish o { o with
        tuner := { s.tuner with signal := .locked }, decoder := leave o.decoder })) ∧
    (s.tuner.signal ≠ .locked → s.tuner.signal ≠ .sync →
      exec .syncPresent s = .next (State.finish o o) ∧ exec .syncAbsent s = .next (State.finish o o))

/-- R77, R78, R81, R82: the AFT's readings, no scan under way. LOW raises and HIGH lowers the correction by 1
within -16..+16, and a changed effective N restarts the lock limit and moves the band (an unchanged one starts none:
log 62); CENTRE ends the AFT as
AFT_OK; the 40th reading without it as AFT_FAIL with correction 0. Without a running AFT a reading does
nothing. -/
def Obligations.AftReadings : Prop :=
  ∀ (s : State) (b : TunedBase), s.on = true → s.tuner.scan = none → s.requests.tunerLane = none →
    s.tuner.base = some b →
    let o := s.afterWrites
    let moved := fun (q : Int) => { s.tuner with
      readings := s.tuner.readings + 1, correction := q, band := bandOf (effectiveOf b q)
      lockLimit := if effectiveOf b q = effectiveOf b s.tuner.correction then s.tuner.lockLimit
        else some (s.timeBase + Config.lockLimit) }
    (s.tuner.aft = .running → s.tuner.aftReady = true →
      exec (.aftReading .centre) s = .next (State.finish o { o with tuner :=
        { s.tuner with readings := s.tuner.readings + 1, aft := .ok } }) ∧
      (s.tuner.readings < 39 →
        exec (.aftReading .low) s = .next (State.finish o { o with tuner := (moved
          (if s.tuner.correction < 16 then s.tuner.correction + 1 else s.tuner.correction)) }) ∧
        exec (.aftReading .high) s = .next (State.finish o { o with tuner := (moved
          (if -16 < s.tuner.correction then s.tuner.correction - 1 else s.tuner.correction)) }) ∧
        exec (.aftReading .none) s = .next (State.finish o { o with tuner := (moved s.tuner.correction) })) ∧
      (39 ≤ s.tuner.readings → ∀ q, q ≠ .centre →
        ∃ x, exec (.aftReading q) s = .next (State.finish o x) ∧ x.tuner.aft = .fail ∧
          x.tuner.correction = 0 ∧ x.tuner.band = bandOf (effectiveOf b 0) ∧
          x.tuner.base = some b ∧ x.tuner.signal = s.tuner.signal ∧ x.decoder = s.decoder ∧
          x.clock = s.clock)) ∧
    (s.tuner.aft ≠ .running ∨ s.tuner.aftReady = false →
      ∀ q, exec (.aftReading q) s = .next (State.finish o o))

/-- R93 to R95: a scan's dwell without a station tunes the next step, 16 above, while it lies in the range, without a
lock limit (log 26), and ends the scan past it; where no station code came, the station found is stored in the lowest
preset not in use, unless it is a duplicate, and TUNER/SCAN_STORED is raised. R94, by phase: in the dwell, sync with the lock
or after it begins the step's AFT, a lock without sync or its loss changes the signal alone; AFT OK waits for a station code,
or takes the one that has come, and the 40th reading off centre tunes the next step, or ends the scan past the range; a
STATION packet's new code is held until the AFT has ended, and stored with in the code wait, a second one being left. The
store: a duplicate of a preset in use, by divisor or by code, goes on to the first step of the grid above the centred divisor
plus 24; with no preset unused, before the store or after it, the scan ends TABLE_FULL. R95: the end gives the results, frees
PRESETS and returns the owner to VIEW or NONE. -/
def Obligations.ScanSteps : Prop :=
  let nextStepsTo := fun (x s : State) (q : Scan) (d : Nat) =>
    x.tuner.scan = some { q with
      step := d, phase := .dwell, limit := some (s.timeBase + Config.scanDwell), code := none } ∧
      x.tuner.base = some ⟨d, 0, 0, false⟩ ∧ x.tuner.signal = .acquiring ∧ x.tuner.lockLimit = none ∧
      x.tuner.aft = .off ∧ x.requests = s.requests ∧ x.claims = s.claims
  let endsWith := fun (x s : State) (stored full step : Nat) =>
    x.tuner.scan = none ∧ x.claims.engine.presets = false ∧
      x.tuner.owner = (if s.power.hostNeed then .view else .none) ∧
      ∀ n r, s.requests.tunerLane = some n → s.requests.slots[n] = some r →
        (Config.slotBase n.val, finishBytes r .done .none (le16 stored ++ le16 full ++ le16 step))
          ∈ x.scratch.writes ∧ x.requests.tunerLane = none ∧ x.requests.slots[n] = none
  (∀ (s : State) (q : Scan), s.on = true → s.tuner.scan = some q → q.limit.isSome = true →
    let o := s.afterWrites
    (q.phase = .dwell → q.step + 16 ≤ 14382 →
      ∃ x, exec .scanDwellExpiry s = .next (State.finish o x) ∧
        x.tuner.scan = some { q with
          step := q.step + 16, limit := some (s.timeBase + Config.scanDwell), code := none } ∧
        x.tuner.base = some ⟨q.step + 16, 0, 0, false⟩ ∧ x.tuner.signal = .acquiring ∧
        x.tuner.lockLimit = none ∧ x.decoder.current = none) ∧
    (q.phase = .dwell → 14382 < q.step + 16 → s.power.hostNeed = false →
      ∃ x, exec .scanDwellExpiry s = .next (State.finish o x) ∧ x.tuner.scan = none ∧
        x.tuner.owner = .none ∧ x.claims.engine.presets = false ∧
        (∀ n r, s.requests.tunerLane = some n → s.requests.slots[n] = some r →
          (Config.slotBase n.val, finishBytes r .done .none (le16 q.stored ++ le16 0 ++ le16 q.step))
            ∈ x.scratch.writes)) ∧
    (q.phase = .codeWait → ∀ p, o.lowestUnused = some p → o.isDuplicate q.centred 0 = false →
      ∃ x, exec .scanCodeTimeout s = .next (State.finish o x) ∧
        (Config.presetBase p, padTo 16 ([0x0B, 0] ++ le16 q.centred ++ le16 0)) ∈ x.scratch.writes ∧
        ⟨.tuner, 1⟩ ∈ x.presenter.pending) ∧
    (q.phase = .codeWait → exec .scanCodeTimeout s = .next (State.finish o (o.scanStore q 0))) ∧
    (q.phase ≠ .dwell → exec .scanDwellExpiry s = .next (State.finish o o)) ∧
    (q.phase ≠ .codeWait → exec .scanCodeTimeout s = .next (State.finish o o))) ∧
  (∀ (s : State) (q : Scan), s.on = true → s.tuner.scan = some q → q.phase = .dwell →
    s.tuner.base.isSome = true →
    (∀ n r, s.requests.tunerLane = some n → s.requests.slots[n] = some r → r.kind = 12) →
    let o := s.afterWrites
    let found := fun t : Tuner => { t with
      signal := .sync, scan := some { q with phase := .aft, limit := none }, aft := .running, readings := 0
      aftReady := true }
    (s.tuner.signal = .acquiring ∨ s.tuner.signal = .noLock →
      exec (.synthLock true) s
        = .next (State.finish o { o with tuner := found { s.tuner with lockLimit := none } }) ∧
      exec (.synthLock false) s = .next (State.finish o { o with tuner :=
        { s.tuner with lockLimit := none, aftReady := true, signal := .locked } })) ∧
    (s.tuner.signal = .locked →
      exec .syncPresent s = .next (State.finish o { o with tuner := found s.tuner }) ∧
      exec .synthLockLoss s = .next (State.finish o { o with tuner := { s.tuner with signal := .noLock } }))) ∧
  (∀ (s : State) (q : Scan), s.on = true → s.tuner.scan = some q → q.phase = .aft →
    s.tuner.aft = .running → s.tuner.aftReady = true →
    let o := s.afterWrites
    let centred := (q.step + s.tuner.correction).toNat
    let read : State := { o with tuner := { s.tuner with readings := s.tuner.readings + 1, aft := .ok } }
    let waiting : Scan := { q with
      centred := centred, phase := .codeWait, limit := some (s.timeBase + Config.scanCode) }
    (q.code = none → exec (.aftReading .centre) s
      = .next (State.finish o { read with tuner.scan := some waiting })) ∧
    (∀ k, q.code = some k → exec (.aftReading .centre) s
      = .next (State.finish o (read.scanStore { q with centred := centred, phase := .codeWait } k))) ∧
    (∀ a, a ≠ .centre → ∃ x, exec (.aftReading a) s = .next (State.finish o x) ∧
      (s.tuner.readings < 39 →
        x.tuner.scan = some q ∧ x.tuner.aft = .running ∧ x.tuner.readings = s.tuner.readings + 1) ∧
      (39 ≤ s.tuner.readings → q.step + 16 ≤ 14382 →
        nextStepsTo x s q (q.step + 16) ∧ x.scratch.writes = []) ∧
      (39 ≤ s.tuner.readings → 14382 < q.step + 16 → endsWith x s q.stored 0 q.step))) ∧
  (∀ (s : State) (q : Scan) (k : Nat), s.tuner.scan = some q →
    (q.code.isSome = true → s.reportCode k = s) ∧
    (q.code = none → q.phase ≠ .codeWait →
      s.reportCode k = { s with tuner.scan := some { q with code := some k } }) ∧
    (q.code = none → q.phase = .codeWait → s.reportCode k = s.scanStore { q with code := some k } k)) ∧
  (∀ (c : Instr) (p : Packet) (s : State), c.packet? = some p → s.on = true → s.decoder.powered = true →
    s.tuner.signal = .sync → p.passes = true → p.kind = 1 → p.fragment = 0 →
    let k := payloadField p.payload 24 16
    k ≠ 0 → k ≠ s.decoder.code →
    ∃ y : State, exec c s = .next (State.finish s.afterWrites (y.reportCode k)) ∧ y.tuner = s.tuner ∧
      y.decoder.code = k ∧ y.requests = s.requests ∧ y.claims = s.claims ∧ y.power = s.power ∧
      y.scratch.writes = [] ∧ y.timeBase = s.timeBase) ∧
  (∀ (s : State) (held q : Scan) (k : Nat), s.tuner.scan = some held → held.step = q.step →
    held.stored = q.stored → 1319 ≤ q.centred →
    let z := s.scanStore q k
    let near := fun p =>
      (s.preset p).divisor ≤ q.centred + 24 ∧ q.centred ≤ (s.preset p).divisor + 24
    let duplicate := ∃ p, 1 ≤ p ∧ p ≤ 64 ∧ (s.preset p).inUse = true ∧
      (near p ∨ (k ≠ 0 ∧ (s.preset p).station = k))
    let unused := fun p => 1 ≤ p ∧ p ≤ 64 ∧ (s.preset p).inUse = false
    ∃ d, d % 16 = 1343 % 16 ∧ q.centred + 24 < d ∧ d ≤ q.centred + 40 ∧
      (duplicate →
        (d ≤ 14382 → nextStepsTo z s q d ∧ z.scratch.writes = s.scratch.writes ∧ z.presenter = s.presenter) ∧
        (14382 < d → endsWith z s q.stored 0 q.step)) ∧
      (¬duplicate → (∀ p, ¬unused p) → endsWith z s q.stored 1 q.step) ∧
      (∀ p, ¬duplicate → unused p → (∀ m, 1 ≤ m → m < p → (s.preset m).inUse = true) →
        (Config.presetBase p, padTo 16 ([0x0B, 0] ++ le16 q.centred ++ le16 k)) ∈ z.scratch.writes ∧
        ((∀ m, p < m → ¬unused m) → endsWith z s (q.stored + 1) 1 q.step) ∧
        ((∃ m, p < m ∧ unused m) → d ≤ 14382 →
          nextStepsTo z s { q with stored := q.stored + 1 } d ∧ ⟨.tuner, 1⟩ ∈ z.presenter.pending) ∧
        ((∃ m, p < m ∧ unused m) → 14382 < d → endsWith z s (q.stored + 1) 0 q.step)))

/-! ### Line data -/

/-- R99 to R107: a packet, whatever its row. It is read only in SYNC with the decoder powered; one that fails its
parity or its header only counts an error; a STATION WHOLE gives a new station code; a LABEL FIRST becomes the
pending record; a LABEL LAST of the next sequence completes it, and an accepted record becomes the current one; any
other packet drops the pending record. R107: the miss window runs out: the miss count rises by 1 up to 255 and the
window starts afresh; the tenth miss sets LOST, which the scheduler is handed. Without a window that has run out
nothing happens. R117 to R120: a TIME packet enters its candidate; the newest of two or three agrees with an earlier
one, or the two earlier ones agree (the later arrived of them is taken: log 18), and the accepted time confirms the
calendar, is applied to it with CLOCK/STEP, or is implausible; the third implausible one in a row suspends auto-set
with CLOCK/DISPUTE. Candidates are advanced by the time base (log 35). -/
def Obligations.LineData : Prop :=
  (∀ (c : Instr) (p : Packet) (s : State), c.packet? = some p → s.on = true →
     let o := s.afterWrites
     let reads := s.decoder.powered = true ∧ s.tuner.signal = .sync
     (¬reads → exec c s = .next (State.finish o o)) ∧
     (reads → (p.parityOk = false ∨ p.kind = 0 ∨ p.sequence = 0) →
       exec c s = .next (State.finish o
         { o with decoder.errors := min 65535 (s.decoder.errors + 1) })) ∧
     (reads → p.parityOk = true → p.sequence ≠ 0 →
       (p.kind = 3 → p.fragment = 1 → exec c s = .next (State.finish o
         { o with decoder.pendingRec := some ⟨p.sequence, p.payload⟩ })) ∧
       (p.kind = 3 ∧ (p.fragment = 0 ∨ p.fragment = 2 ∨ (p.fragment = 3 ∧ s.decoder.pendingRec = none)) ∨
           (p.kind = 1 ∨ p.kind = 2) ∧ p.fragment ≠ 0 →
         exec c s = .next (State.finish o { o with decoder.pendingRec := none })) ∧
       (p.kind = 2 → p.fragment = 0 → timeFields p.payload = none → exec c s = .next (State.finish o
         { o with decoder.pendingRec := none, decoder.errors := min 65535 (s.decoder.errors + 1) })) ∧
       (p.kind = 1 → p.fragment = 0 → payloadField p.payload 24 16 ≠ 0 → s.tuner.scan = none →
         ∃ x, exec c s = .next (State.finish o x) ∧
           x.decoder = { s.decoder with
             pendingRec := none, code := payloadField p.payload 24 16 } ∧ x.tuner = s.tuner) ∧
       (p.kind = 2 → p.fragment = 0 → ∀ universal offset, timeFields p.payload = some (universal, offset) →
         s.clock.autoSet = true → s.clock.suspended = false → s.clock.window = [] →
         exec c s = .next (State.finish o { o with
           decoder.pendingRec := none
           clock.window := [⟨(universal : Int) + offset * 1800, s.timeBase⟩] })) ∧
       (p.kind = 3 → p.fragment = 3 → ∀ q, s.decoder.pendingRec = some q →
         (p.sequence ≠ nextSequence q.sequence → exec c s = .next (State.finish o
           { o with decoder.pendingRec := none })) ∧
         (p.sequence = nextSequence q.sequence → joinLabel q.payload p.payload = none →
           exec c s = .next (State.finish o { o with
             decoder.pendingRec := none, decoder.errors := min 65535 (s.decoder.errors + 1) })) ∧
         (∀ l, p.sequence = nextSequence q.sequence → joinLabel q.payload p.payload = some l →
           s.tuner.stationCode = 0 ∨ s.tuner.stationCode = l.code → s.tuner.scan = none →
           ∃ x, exec c s = .next (State.finish o x) ∧ x.decoder = { s.decoder with
               pendingRec := none, current := some l, miss := 0, lost := false
               code := if l.code = 0 then s.decoder.code else l.code
               window := some (s.timeBase + Config.missWindow) } ∧
             x.scratch.notes = [.labelRecord l false]) ∧
         (∀ l, p.sequence = nextSequence q.sequence → joinLabel q.payload p.payload = some l →
           s.tuner.stationCode ≠ 0 → s.tuner.stationCode ≠ l.code →
           exec c s = .next (State.finish o { o with decoder.pendingRec := none }))))) ∧
  (∀ s : State, s.on = true →
     let o := s.afterWrites
     (s.decoder.window = none → exec .missWindowExpiry s = .next (State.finish o o)) ∧
     (∀ t, s.decoder.window = some t → s.timeBase < t → exec .missWindowExpiry s = .next (State.finish o o)) ∧
     (∀ t, s.decoder.window = some t → t ≤ s.timeBase →
       ∃ x, exec .missWindowExpiry s = .next (State.finish o x) ∧ x.decoder = { s.decoder with
           miss := min 255 (s.decoder.miss + 1)
           lost := s.decoder.lost || decide (s.decoder.miss = 9)
           window := some (s.timeBase + Config.missWindow) } ∧
         x.scratch.notes
           = (if s.decoder.lost = false ∧ s.decoder.miss = 9 then [.labelLost s.decoder.current] else []))) ∧
  (∀ (now : Nat) (a b c : Candidate),
     let at_ := fun x : Candidate => x.local_ * 32768 + ((now - x.stamp : Nat) : Int)
     let agree := fun x y => (at_ x - at_ y).natAbs ≤ 32768
     acceptedTime [a] now = none ∧
     (agree a b → acceptedTime [a, b] now = some (at_ b)) ∧ (¬agree a b → acceptedTime [a, b] now = none) ∧
     (agree a c ∨ agree b c → acceptedTime [a, b, c] now = some (at_ c)) ∧
     (¬agree a c → ¬agree b c → agree a b → acceptedTime [a, b, c] now = some (at_ b)) ∧
     (¬agree a c → ¬agree b c → ¬agree a b → acceptedTime [a, b, c] now = none)) ∧
  (∀ (c : Instr) (p : Packet) (s : State) (universal : Nat) (offset : Int), c.packet? = some p → s.on = true →
     s.decoder.powered = true → s.tuner.signal = .sync → p.parityOk = true → p.sequence ≠ 0 → p.kind = 2 →
     p.fragment = 0 → timeFields p.payload = some (universal, offset) → s.clock.autoSet = true →
     s.clock.suspended = false → s.clock.seek = none →
     let o := s.afterWrites
     let window := (if 3 ≤ s.clock.window.length then s.clock.window.drop 1 else s.clock.window)
       ++ [⟨(universal : Int) + offset * 1800, s.timeBase⟩]
     (acceptedTime window s.timeBase = none → exec c s = .next (State.finish o { o with
       decoder.pendingRec := none, clock.window := window })) ∧
     (∀ t, acceptedTime window s.timeBase = some t →
       let d := (t - s.clock.calendar.cycles).natAbs
       let emptied := { s.clock with window := [] }
       let unset := s.clock.state = .unset
       let inRange := 0 ≤ t ∧ t < (rangeEnd * 32768 : Nat)
       ∃ x, exec c s = .next (State.finish o x) ∧ x.tuner = s.tuner ∧ x.transport = s.transport ∧
         (¬inRange → x.clock = emptied ∧ x.scratch.notes = []) ∧
         (inRange → d < 2 * 32768 →
           x.clock = { emptied with implausible := 0, state := if unset then .broadcast else s.clock.state } ∧
           x.scratch.notes = (if unset then [.notice] else [])) ∧
         (inRange → 2 * 32768 ≤ d → d ≤ 21600 * 32768 ∨ unset →
           x.clock = { emptied with
             implausible := 0, state := .broadcast, running := true
             calendar := calendarAt (t.toNat / 32768) (t.toNat % 32768) } ∧
           ⟨.clock, 0⟩ ∈ x.presenter.pending ∧
           x.scratch.notes = [.step s.clock.calendar.seconds (t.toNat / 32768)]) ∧
         (inRange → 21600 * 32768 < d → ¬unset →
           (s.clock.implausible < 2 →
             x.clock = { emptied with implausible := s.clock.implausible + 1 } ∧
             x.presenter.pending = s.presenter.pending) ∧
           (2 ≤ s.clock.implausible →
             x.clock = { emptied with implausible := 3, suspended := true } ∧
             ⟨.clock, 1⟩ ∈ x.presenter.pending))))

/-! ### Clock and scheduler -/

/-- R112, R113, R123: a second of a running calendar completes: the time base stands at its end and the calendar at
the next second, with a minute tick where the seconds pass from 59 to 00, the pre-roll's test before the clock
seek's (log 20); past the last second of 2079 the calendar stops and the state becomes UNSET. A stopped calendar
does not count. In RETAIN and under the reset line the calendar counts and nothing is handed; that deck memory
stays, the CLOCK group not rewritten there, is the model's choice (log 79). In RECORDING for a program the seconds
of uptime that pass are added to the seconds recorded (R148; the model's choice, log 33). The limit of a clock seek
ends it. -/
def Obligations.SecondsAreCounted : Prop :=
  (∀ s : State, s.transport.mode ≠ .recording →
    let o := s.afterWrites
    let next := s.clock.calendar.seconds + 1
    (s.clock.running = true → s.clock.calendar.phase ≤ Config.hz →
      (s.on = true → next < rangeEnd →
        ∃ x, exec .secondComplete s = .next (State.finish o x) ∧
          x.clock = { s.clock with calendar := ⟨next / 86400, next % 86400, 0⟩ } ∧
          x.timeBase + s.clock.calendar.phase = s.timeBase + Config.hz ∧
          x.scratch.notes = (if next % 60 = 0 then [.tick, .seekTest] else []) ∧
          x.transport = s.transport ∧ x.tuner = s.tuner ∧ x.scheduler = s.scheduler) ∧
      (s.on = true → rangeEnd ≤ next →
        ∃ x, exec .secondComplete s = .next (State.finish o x) ∧ x.clock.running = false ∧
          x.clock.state = .unset ∧ x.clock.calendar = { s.clock.calendar with phase := 0 } ∧
          x.scratch.notes = [.notice]) ∧
      (s.on = false → next < rangeEnd →
        ∃ t, exec .secondComplete s = .next t ∧
          t.clock = { s.clock with calendar := ⟨next / 86400, next % 86400, 0⟩ } ∧
          t.transport = s.transport ∧ t.power = s.power ∧ t.scheduler = s.scheduler ∧ t.mem = s.mem)) ∧
    (s.clock.running = false → s.on = true → exec .secondComplete s = .next (State.finish o o)) ∧
    (s.on = true → s.clock.seek = none → exec .seekLimitExpiry s = .next (State.finish o o)) ∧
    (s.on = true → s.clock.seek.isSome = true → s.tuner.seek.isSome = true → s.power.state = .quiet →
      s.tuner.signal ≠ .unpowered →
      ∃ x, exec .seekLimitExpiry s = .next (State.finish o x) ∧ x.clock.seek = none ∧
        x.tuner.seek = none ∧ x.tuner.owner = .none ∧ x.tuner.signal = .unpowered ∧
        x.clock.calendar = s.clock.calendar ∧ x.clock.lastSeek = s.clock.lastSeek)) ∧
  (∀ (s : State) (n : Fin 16) (r : RunCopy), s.on = true → s.transport.mode = .recording →
    s.transport.owner = .program n → s.run n = some r → s.clock.running = true →
    s.clock.calendar.phase ≤ Config.hz →
    let next := s.clock.calendar.seconds + 1
    next < rangeEnd →
    ∃ x, exec .secondComplete s = .next (State.finish s.afterWrites x) ∧
      x.clock = { s.clock with calendar := ⟨next / 86400, next % 86400, 0⟩ } ∧
      x.timeBase + s.clock.calendar.phase = s.timeBase + Config.hz ∧ x.transport = s.transport ∧
      (let passed := x.timeBase / Config.hz - s.timeBase / Config.hz
       x.run n = some { r with
         seconds := if passed = 0 then r.seconds else min 4294967295 (r.seconds + passed) }))

/-- R146, R151 to R154, R156, R157, R165: the events of a running entry. At its start a waiter becomes PENDING with
blocker BUSY. At the window end an entry that is not writing, or writes under CLOCK control, closes with the outcome
of R164, and under LABEL control one that writes goes on; the end-of-label timer closes the holder. The deck of a
holder that closes goes to the running entry that is left, else it is released: control and order go, the recording
is stopped, with the mode STOPPED in that event while the tape still stops (the model's reading, log 12), and the
tuner goes back to the host or to NONE. The budget hold-off ends. An entry that does not run takes none of these
events. A record handed to a holder under LABEL control acts by its phase and status; the setting of LOST acts as
R153 has it, the record handed with it becoming the last label alone (log 72); a holder that writes goes on under
CLOCK control. A new figure below the minutes required and 1 switches the speed, and no other does. -/
def Obligations.OccurrenceEvents : Prop :=
  (∀ (s : State) (n : Fin 16), s.on = true →
    let o := s.afterWrites
    let closed := fun (x : State) (r : RunCopy) (why : EndCause) => x.run n = none ∧
      (x.entry n).owned.outcome = r.report (outcomeCode r (.cause why)) ∧
      (x.entry n).owned.outcome.date = BitVec.ofNat 16 r.occDay ∧ ⟨.program, n.val⟩ ∈ x.presenter.pending
    let ends := fun (c : Instr) (r : RunCopy) (why : EndCause) =>
      (c = .windowEnd n ∧ why = .window ∧ r.windowTaken = false ∧ r.windowEnd ≤ s.time r ∧
        (s.entry n).owned.state ≠ .interrupted ∧ ((s.entry n).owned.state = .recording → r.labelMode = false)) ∨
      (c = .endOfLabelTimeout n ∧ why = .labelEnd ∧ r.role = .holder ∧ r.endTimer.isSome = true)
    (s.run n = none → ∀ c ∈ [Instr.occurrenceStart n, .windowEnd n, .endOfLabelTimeout n,
      .budgetHoldOffExpiry n], exec c s = .next (State.finish o o)) ∧
    (∀ r, s.run n = some r → r.startTaken = false → 0 ≤ s.time r → r.role = .waiter →
      (s.entry n).owned.state = .preroll → s.claims.host.programs = false → s.claims.host.presets = false →
      exec (.occurrenceStart n) s = .next (State.finish o (o.setEntry n { s.entry n with
        owned.state := .pending, run := some { r with startTaken := true, miss := .busy } }))) ∧
    (∀ r, s.run n = some r → r.windowTaken = false → r.windowEnd ≤ s.time r → r.labelMode = true →
      (s.entry n).owned.state = .recording →
      exec (.windowEnd n) s = .next (State.finish o (o.setRun n { r with windowTaken := true }))) ∧
    (∀ c r why, s.run n = some r → ends c r why → r.role = .waiter →
      ∃ x, exec c s = .next (State.finish o x) ∧ closed x r why ∧ x.transport = s.transport) ∧
    (∀ c r why, s.run n = some r → ends c r why → r.role = .holder → s.transport.control = some n →
      s.tuner.owner = .record → s.transport.owner ≠ .manual → s.power.schedulerNeed = true →
      s.power.state = .active →
      ((∀ m, m ≠ n → s.run m = none) →
        ∃ x, exec c s = .next (State.finish o x) ∧ closed x r why ∧ x.transport.control = none ∧
          x.transport.order = none ∧ x.transport.owner ≠ .program n ∧
          x.tuner.owner = (if s.power.hostNeed then .view else .none) ∧ x.power.schedulerNeed = false ∧
          (s.power.hostNeed = true → x.power.state = .active) ∧
          (s.requests.transportLane = none →
            s.transport.mode ∈ [Mode.stopped, .still, .recording, .recordPause] →
            (∃ stage hf, x.transport.path = some ⟨.stop false, stage, hf, false⟩) ∧
            (s.transport.mode = .recording → s.transport.camMove = none → x.transport.mode = .stopped))) ∧
      (∀ m q, m ≠ n → s.run m = some q → (∀ k, k ≠ n → k ≠ m → s.run k = none) → q.role = .waiter →
        (s.entry m).owned.state = .preroll ∨ (s.entry m).owned.state = .pending →
        o.presetInUse q.preset = true → s.transport.mode ≠ .recording →
        ∃ x, exec c s = .next (State.finish o x) ∧ closed x r why ∧ x.transport.control = some m ∧
          x.run m = some { q with role := .holder } ∧ x.tuner.owner = .record ∧
          x.tuner.holder = .program m)) ∧
    (∀ r, s.run n = some r →
      exec (.budgetHoldOffExpiry n) s = .next (State.finish o (o.setRun n { r with holdOff := none })))) ∧
  (∀ (s : State) (n : Fin 16) (r : RunCopy) (l : LabelRecord) (lost : Bool), s.holder = some n →
    s.run n = some r → r.labelMode = true → s.transport.mode ≠ .recording → s.scheduler.clockHanded ≠ .unset →
    let y := s.recordHanded l lost
    let own := s.labelIsOf n l
    let kept : RunCopy := { r with lastLabel := some l, lostSeen := lost }
    (r.matched = false → own = true → l.status = .running →
      y.run n = some { kept with matched := true, labelStart := some (s.time r) } ∧
      ((s.entry n).owned.state = .waitingLabel → y.transport.order = some (.record n r.speed r.newStart)) ∧
      ((s.entry n).owned.state ≠ .waitingLabel → y.transport = s.transport)) ∧
    (r.matched = false → own = false ∨ l.status ≠ .running → y = s.setRun n kept) ∧
    (r.matched = true → own = true →
      (l.status = .running → y.run n = some { kept with endTimer := none } ∧
        ((s.entry n).owned.state = .labelPaused → y.transport.order = some (.record n r.speed r.newStart))) ∧
      (l.status = .notRunning → y = s.setRun n { kept with
        endTimer := if r.endTimer.isSome then r.endTimer else some (s.timeBase + Config.endOfLabel) })) ∧
    (r.matched = true → own = false → l.status = .running →
      y.run n = none ∧ (y.entry n).owned.outcome = r.report (outcomeCode r (.cause .labelEnd))) ∧
    (r.matched = true → own = false → l.status ≠ .running → y = s.setRun n kept) ∧
    (∀ current : Option LabelRecord,
     let z := s.lostHanded current
     let seen : RunCopy := { r with
       lastLabel := (match current with | some x => some x | none => r.lastLabel)
       lostSeen := true, endTimer := none }
     let clocked : RunCopy := { seen with labelMode := false }
     (s.time r < r.stop →
       z.run n = some clocked ∧
       ((s.entry n).owned.state = .waitingLabel ∨ (s.entry n).owned.state = .labelPaused →
         z.transport.order = some (.record n r.speed r.newStart)) ∧
       ((s.entry n).owned.state = .preroll ∨ (s.entry n).owned.state = .pending →
         z.transport = s.transport)) ∧
     (r.stop ≤ s.time r → r.matched = true → z.run n = none) ∧
     (r.stop ≤ s.time r → r.matched = false →
       z = s.setRun n seen))) ∧
  (∀ (s : State) (n : Fin 16) (r : RunCopy) (current : Option LabelRecord), s.holder = some n →
    s.run n = some r → r.labelMode = true → (s.entry n).owned.state = .recording → s.time r < r.stop →
    s.lostHanded current = s.setRun n { r with
      lastLabel := (match current with | some x => some x | none => r.lastLabel)
      lostSeen := true, endTimer := none, labelMode := false }) ∧
  (∀ (s : State) (n : Fin 16) (r : RunCopy) (l : LabelRecord), s.holder = some n → s.run n = some r →
    r.labelMode = true → r.matched = true → s.labelIsOf n l = true → l.status = .interrupted →
    (s.entry n).owned.state = .recording →
    (s.recordHanded l false).transport.order = some (.hold n) ∧
      (s.recordHanded l false).run n = some { r with lastLabel := some l, lostSeen := false, endTimer := none }) ∧
  (∀ (s : State) (n : Fin 16) (r : RunCopy), s.run n = some r →
    let q := if r.labelMode = true ∧ r.matched = true ∧ (∃ l, r.lastLabel = some l ∧ l.duration ≠ 0)
      then ((r.lastLabel.map (·.duration)).getD 0) - r.seconds / 60
      else ((60 * (r.duration : Int) - s.time r + 59) / 60).toNat
    let open_ := r.autoSpeed = true ∧ (s.entry n).owned.state = .recording ∧ r.speed ≠ .extended ∧
      r.changes < 2 ∧ r.holdOff = none ∧ (∀ e v, s.transport.order ≠ some (.speed e v))
    let speed := if r.speed = .standard ∧ (∃ m, s.remaining.rL = some m ∧ q + 1 ≤ m) then .long else .extended
    (∀ left, s.remaining.atSpeed r.speed = some left → open_ → left < q + 1 →
      (s.budget n r).run n = some { r with
        speed := speed, changes := r.changes + 1, holdOff := some (s.timeBase + Config.budgetHoldOff) } ∧
      (s.budget n r).transport.order = some (.speed n speed)) ∧
    (¬open_ ∨ s.remaining.atSpeed r.speed = none ∨
      (∃ left, s.remaining.atSpeed r.speed = some left ∧ q + 1 ≤ left) → s.budget n r = s))

/-- R145, R149: a pre-roll takes the run copy, leaves the due order and raises the scheduler's need; with the deck
free the entry becomes its holder, with program control and the tuner, else it waits with blocker BUSY. The holder
chosen is the running entry with the earliest start (one with none, at a start, counts as minute 0: log 99). R27: what TAKE, RECORD, HOLD, SPEED and RELEASE begin (a TAKE
that cannot reach STILL stops playback, search, winding and writing: log 49 names the paths, the final PLAY of a
LOCATE among them). R147: the order the advance gives; while one is in flight it gives none (the model's choice, log
31), nor while the transport writes for the entry. Under LABEL control it gives TAKE first from LOADED, and from
THREADING and UNTHREADING too, which R147 does not name (the model's choice, log 91). R150: the hand-over of a
writing holder to an entry of the preset tuned (log 32). -/
def Obligations.ProgramsTakeTheDeck : Prop :=
  (∀ (s : State) (n : Fin 16) (x : NextStart), s.prerolls n = true → (s.entry n).owned.next = some x →
    s.claims.host.programs = false → s.claims.host.presets = false →
    let y := s.preroll n
    let r := s.runOf (s.entry n).copy x
    let startsIn : Int := (x.minutes * 60 : Nat) - s.clock.calendar.seconds
    n ∉ y.scheduler.due ∧ y.power.schedulerNeed = true ∧ .start n ∈ y.scratch.notes ∧
      .windowEnd n ∈ y.scratch.notes ∧ r.occDay = x.day ∧ r.anchorT = -startsIn ∧
      r.duration = (s.entry n).copy.duration ∧ r.newStart = true ∧ r.segments = 0 ∧ r.late = 0 ∧
    (s.transport.owner = .manual ∨ (∃ m q, m ≠ n ∧ s.run m = some q ∧ q.role = .holder) →
      y.run n = some { r with miss := .busy } ∧ (y.entry n).owned.state = .preroll ∧
        y.transport = s.transport) ∧
    (s.transport.owner ≠ .manual → (∀ m q, m ≠ n → s.run m = some q → q.role = .waiter) →
      s.presetInUse (s.entry n).copy.preset = true →
      y.run n = some { r with role := .holder } ∧ y.transport.control = some n ∧ y.tuner.owner = .record ∧
        y.tuner.holder = .program n ∧
        (y.entry n).owned.state = (if 0 < startsIn then .preroll else .pending))) ∧
  (∀ s : State,
    (∀ m, s.nextHolder = some m → s.candidate m = true ∧
      ∀ k, s.candidate k = true → s.dueBefore m k = true) ∧
    (s.nextHolder = none → ∀ k, s.candidate k = false)) ∧
  (∀ (s : State) (e : Fin 16) (speed : Speed) (new : Bool), s.requests.transportLane = none →
    s.goalIs (· == .rest) = false →
    let going := fun (y : State) (o : Order) (g : Goal) => y.transport.order = some o ∧
      ∃ stage hf, y.transport.path = some ⟨g, stage, hf, true⟩
    (s.takeable = true → (s.orderTake e).transport.control = some e ∧ going (s.orderTake e) (.take e) .still) ∧
    (s.takeable = false → (s.orderTake e).transport.control = some e ∧
      (s.orderTake e).transport.order = none ∧ .takeDone e ∈ (s.orderTake e).scratch.notes ∧
      (s.transport.mode ∈ [Mode.playing, .cue, .review, .windFwd, .windRev, .recording, .recordPause] →
        ∃ stage hf, (s.orderTake e).transport.path = some ⟨.stop false, stage, hf, false⟩) ∧
      (∀ q, s.transport.path = some q → q.goal.runsDrum = true →
        s.transport.mode ∈ [Mode.threading, .stopped, .still] →
        ∃ stage hf, (s.orderTake e).transport.path = some ⟨.stop false, stage, hf, false⟩)) ∧
    (s.transport.mode = .recording →
      let y := s.orderRecord e speed new
      y.transport = { s.transport with
        control := some e, owner := .program e, order := none, path := none } ∧
      .recordEntered e new ∈ y.scratch.notes ∧ (new = false → y.position = s.position) ∧
      (new = true → y.position.writer = .writing 0 (some e) none)) ∧
    (s.transport.mode ≠ .recording →
      (s.orderRecord e speed new).transport.control = some e ∧
      going (s.orderRecord e speed new) (.record e speed new) (.progRecord e speed new)) ∧
    ((s.orderHold e).transport.control = some e ∧ going (s.orderHold e) (.hold e) (.progHold e)) ∧
    going (s.orderSpeed e speed) (.speed e speed)
      (if s.transport.mode = .recording then .progSpeed e speed else .progRecord e speed false) ∧
    (s.orderRelease.transport.control = none ∧ s.orderRelease.transport.order = none ∧
      (s.transport.mode = .faultHold →
        s.orderRelease = { s with transport.control := none, transport.order := none }) ∧
      (s.transport.mode ∈ [Mode.stopped, .still, .recording, .recordPause] →
        ∃ stage hf, s.orderRelease.transport.path = some ⟨.stop false, stage, hf, false⟩))) ∧
  (∀ (s : State) (n : Fin 16) (r : RunCopy), s.run n = some r → r.role = .holder →
    let y := s.advance n
    (s.writesFor n = true → y = s) ∧
    (s.writesFor n = false → ∀ b, s.blocker = some b →
      y.run n = some { r with miss := b } ∧ y.transport.mode = s.transport.mode ∧
        (y.entry n).owned.state = (if 0 ≤ s.time r then .pending else (s.entry n).owned.state) ∧
        y.transport.order = s.transport.order) ∧
    (s.writesFor n = false → s.blocker = none →
      (s.scheduler.clockHanded = .unset → y = s.setRun n { r with miss := .clockStep }) ∧
      (s.scheduler.clockHanded ≠ .unset → s.transport.order.isSome = true → y = s) ∧
      (s.scheduler.clockHanded ≠ .unset → s.transport.order = none →
        (s.time r < 0 → y = if s.transport.mode = .still then s else s.orderTake n) ∧
        (0 ≤ s.time r → r.labelMode = false → y = s.orderRecord n r.speed r.newStart) ∧
        (0 ≤ s.time r → r.labelMode = true → r.lostSeen = false →
          let runs := ∃ l, r.lastLabel = some l ∧ s.labelIsOf n l = true ∧ l.status = .running
          (runs → y = s.orderRecord n r.speed r.newStart) ∧
          (¬runs → y = if s.transport.mode ∈ [Mode.loaded, .threading, .unthreading] then s.orderTake n
            else s.orderHold n))))) ∧
  (∀ (s : State) (m : Fin 16) (r : RunCopy), s.holder = none → s.transport.owner ≠ .manual →
    s.nextHolder = some m → s.run m = some r → s.transport.mode = .recording →
    s.requests.transportLane = none → s.presetInUse r.preset = true → 0 ≤ s.time r → r.labelMode = false →
    (∃ b, s.tuner.base = some b ∧ b.preset = r.preset) → s.scheduler.clockHanded ≠ .unset →
    let y := s.afterHolder true false
    y.run m = some { r with role := .holder } ∧ y.transport.owner = .program m ∧
      y.transport.control = some m ∧ y.transport.mode = .recording ∧ y.tuner.owner = .record ∧
      y.tuner.holder = .program m ∧ y.position.writer = .writing 0 (some m) none)

/-- R130, R134, R135: the checks of an entry that is not running, in their order, and the next start: the earliest
date of its repeat that lies in the calendar's range, is not the last closed one and whose validation end is still to
come. R137, R163: a step closes the ARMED entries whose whole window it passes with MISSED_CLOCK_STEP and no other;
out of UNSET nothing is closed, and no entry whose start has passed pre-rolls in that event (the model's reading, log
45). R115: as the clock becomes UNSET a RECORD order of a holder that is not writing goes back to HOLD or TAKE (the
model's choice, log 71). R122: a minute tick begins a clock seek when its conditions hold and the claim is accepted,
and else changes nothing. -/
def Obligations.TheProgramTable : Prop :=
  (∀ (s : State) (c : ProgCfg) (last : Option Nat),
    let found : Option Checked := (([
      (!c.program, ⟨.unused, .none, none⟩), (!c.enable, ⟨.disabled, .none, none⟩),
      (decide (23 < c.startHour) || decide (23 < c.stopHour) || decide (59 < c.startMinute)
        || decide (59 < c.stopMinute), ⟨.invalid, .badTime, none⟩),
      (decide (c.stopHour * 60 + c.stopMinute = c.startHour * 60 + c.startMinute),
        ⟨.invalid, .zeroLength, none⟩),
      ((c.repetition == .once && !validDate ⟨c.year, c.month, c.day⟩)
        || (c.repetition == .weekly && decide (6 < c.day)), ⟨.invalid, .badDate, none⟩),
      (c.repetition == .once && last == some (dayNumber ⟨c.year, c.month, c.day⟩), ⟨.done, .none, none⟩),
      (!s.presetInUse c.preset, ⟨.invalid, .emptyPreset, none⟩),
      ((s.nextStart c last).isNone, ⟨.invalid, .past, none⟩)] : List (Bool × Checked)).find? (·.1)).map (·.2)
    s.checkCfg c last = found.getD ⟨.armed, .none, s.nextStart c last⟩) ∧
  (∀ (s : State) (c : ProgCfg) (last : Option Nat),
    let today := s.clock.calendar.day
    let carries := fun day : Nat => match c.repetition with
      | .once => validDate ⟨c.year, c.month, c.day⟩ = true ∧ day = dayNumber ⟨c.year, c.month, c.day⟩
      | .daily => today ≤ day + 1
      | .weekdays => today ≤ day + 1 ∧ weekdayOf day ≤ 4
      | .weekly => today ≤ day + 1 ∧ weekdayOf day = c.day
    let length := if c.labelControl then max c.duration 240 else c.duration
    let qualifies := fun day : Nat => carries day ∧ day ≤ 36524 ∧ last ≠ some day ∧
      (s.scheduler.clockHanded ≠ .unset →
        s.clock.calendar.seconds < (day * 1440 + c.startHour * 60 + c.startMinute + length) * 60)
    (∀ x, s.nextStart c last = some x → qualifies x.day ∧ x.minute = c.startHour * 60 + c.startMinute ∧
      ∀ day, day < x.day → ¬qualifies day) ∧
    (s.nextStart c last = none → ∀ day, day ≤ today + 15 ∨ c.repetition = .once → ¬qualifies day)) ∧
  (∀ (s : State) (old new : Nat),
    let y := s.stepHanded old new
    y.scheduler.clockHanded = s.clock.state ∧
    (s.scheduler.clockHanded = .unset →
      (∀ m, (y.entry m).owned.outcome = (s.entry m).owned.outcome ∧ y.run m = s.run m) ∧
      y.scratch.notes = s.scratch.notes ++ [.prerollOnTime, .clockSet]) ∧
    (s.scheduler.clockHanded ≠ .unset → ∀ m,
      let passed := (s.entry m).owned.state = .armed ∧ ∃ x, (s.entry m).owned.next = some x ∧
        old < x.minutes * 60 ∧ (x.minutes + (s.entry m).copy.validity) * 60 ≤ new
      (passed → (y.entry m).owned.outcome.code = 16 ∧ ⟨.program, m.val⟩ ∈ y.presenter.pending ∧
        y.run m = none) ∧
      (¬passed → (y.entry m).owned.outcome = (s.entry m).owned.outcome ∧ y.run m = s.run m))) ∧
  (∀ (s : State) (n : Fin 16), s.claims.host.programs = false → s.claims.host.presets = false →
    (∃ x, (s.entry n).owned.next = some x ∧ x.minutes * 60 < s.clock.calendar.seconds) →
    s.prerollOnTime.entry n = s.entry n) ∧
  (∀ (s : State) (n e : Fin 16) (r : RunCopy) (speed : Speed) (new : Bool), s.clock.state = .unset →
    s.holder = some n → s.run n = some r → s.transport.order = some (.record e speed new) →
    let y := s.noticeHanded
    let x := (s.entry n).owned.state
    (y.scheduler.clockHanded = .unset ∧ y.run n = some { r with miss := .clockStep } ∧
      (y.entry n).owned.state = x) ∧
    (x = .waitingLabel ∨ x = .labelPaused → y.transport.order = some (.hold n)) ∧
    (x = .preroll ∨ x = .pending → s.takeable = true → y.transport.order = some (.take n)) ∧
    (x = .preroll ∨ x = .pending → s.takeable = false → y.transport.order = none)) ∧
  (∀ s : State, s.clock.state = .unset → s.holder = none ∨ s.transport.order = none →
    s.noticeHanded = { s with scheduler.clockHanded := .unset }) ∧
  (∀ s : State,
    let p := s.clock.timePreset
    let due := s.power.state = .quiet ∧ s.clock.autoSet = true ∧ s.clock.suspended = false ∧ p ≠ 0 ∧
      s.clock.calendar.sec / 3600 = s.clock.seekHour ∧ s.clock.lastSeek ≠ some s.clock.calendar.day ∧
      s.clock.seek = none
    let accepted := s.tuner.owner = .none ∧ s.presetInUse p = true
    (due → accepted → s.seekTest.clock.seek = some ⟨p, s.timeBase + 120 * 32768⟩ ∧
      s.seekTest.clock.lastSeek = some s.clock.calendar.day ∧ s.seekTest.clock.window = [] ∧
      s.seekTest.clock.calendar = s.clock.calendar ∧ s.seekTest.tuner.owner = .seek ∧
      s.seekTest.tuner.seek = some p ∧ s.seekTest.tuner.signal = .acquiring ∧
      s.seekTest.tuner.base = some ⟨(s.preset p).divisor, (s.preset p).fine, p, (s.preset p).aft⟩ ∧
      s.seekTest.power = s.power ∧ s.seekTest.transport = s.transport) ∧
    (¬(due ∧ accepted) → s.seekTest = s))

/-- R164: the outcome code of a close: the first case that applies of ABANDONED; with nothing recorded, CANCELLED
for end cause HOST and else MISSED_ with the miss cause, FAULT for none; then by end cause PARTIAL_TAPE_END,
PARTIAL_STOPPED, PARTIAL_FAULT and PARTIAL_POWER, the last also for a power gap; LATE; COMPLETE. The close of an
edit agrees with orders 2 and 5. The minutes of the report are the seconds recorded by 60, rounded down, and its
final speed is the speed in force. -/
def Obligations.OutcomeCodes : Prop :=
  ∀ r : RunCopy,
    outcomeCode r .abandoned = 17 ∧
    (r.segments = 0 → outcomeCode r (.cause .host) = 7) ∧
    (∀ e : EndCause, r.segments = 0 → e ≠ .host →
      (r.miss = .noTape → outcomeCode r (.cause e) = 8) ∧
      (r.miss = .writeProtect → outcomeCode r (.cause e) = 9) ∧
      (r.miss = .dew → outcomeCode r (.cause e) = 10) ∧
      (r.miss = .busy → outcomeCode r (.cause e) = 11) ∧
      (r.miss = .tapeFull → outcomeCode r (.cause e) = 12) ∧
      (r.miss = .fault ∨ r.miss = .none → outcomeCode r (.cause e) = 13) ∧
      (r.miss = .power → outcomeCode r (.cause e) = 14) ∧
      (r.miss = .label → outcomeCode r (.cause e) = 15) ∧
      (r.miss = .clockStep → outcomeCode r (.cause e) = 16)) ∧
    (r.segments ≠ 0 →
      outcomeCode r (.cause .tapeEnd) = 3 ∧ outcomeCode r (.cause .host) = 4 ∧
      outcomeCode r .hostStop = 4 ∧ outcomeCode r (.cause .fault) = 5 ∧ outcomeCode r (.cause .power) = 6 ∧
      ∀ e : EndCause, e = .none ∨ e = .window ∨ e = .labelEnd →
        (r.powerGap = true → outcomeCode r (.cause e) = 6) ∧
        (r.powerGap = false → 0 < r.late → outcomeCode r (.cause e) = 2) ∧
        (r.powerGap = false → r.late = 0 → outcomeCode r (.cause e) = 1)) ∧
    (r.segments = 0 → outcomeCode r .hostStop = 7) ∧
    (r.segments = 0 → r.seconds < 60 → outcomeCode r .edited = 7) ∧
    (r.segments ≠ 0 → outcomeCode r .edited = 4) ∧
    (∀ code, (r.report code).minutes = BitVec.ofNat 16 (min 65535 (r.seconds / 60)) ∧
      (r.report code).flags = BitVec.ofNat 8 (r.segments + 16 * r.changes + 64 * r.speed.code))

/-! ### Power -/

/-- R169: the settle timer runs out: the mechanism supply is READY. R28, R172 to R175, R195: the mains-fail warning
puts the part into RETAIN: motors off, needs withdrawn, the requests in flight abandoned without a slot write, every
hold revoked, the port off with an access under way dropped, and the presenter's set and gates lost; also while the
reset line holds the part (log 22). R161, R141: every running entry becomes INTERRUPTED, its power gap and new-start flags set,
its miss cause POWER, its end timer, hold-off and role dropped, and the order in flight goes; a host hold on PROGRAMS is
revoked with a validation, which closes a running entry that the host has made UNUSED or disabled; that no entry
pre-rolls at the end of that validation is the model's choice (log 95). In RETAIN the battery's report sets LOST and the latch; while the mains is present it is
not acted on. The reset line makes the safe stop and holds the part; its release in RETAIN makes no start. R21, R31: the
safe stop of either leaves FAULT_HOLD with its fault code NONE, and the drum's reference INTERNAL. -/
def Obligations.PowerEvents : Prop :=
  (∀ s : State, s.on = true →
     let o := s.afterWrites
     (s.power.settle.isSome = true → exec .settleExpiry s = .next (State.finish o { o with power :=
       { s.power with supply := .ready, settle := none } })) ∧
     (s.power.settle = none → exec .settleExpiry s = .next (State.finish o o))) ∧
  (∀ (s : State) (low a b : Bool),
     let stopped := if s.transport.mode = .faultHold then .none else s.transport.fault
     (s.power.mainsPresent = true →
       let failed : Power := { s.power with
         state := .retain, transportNeed := false, schedulerNeed := false, hostNeed := false, supply := .off
         settle := none, mainsPresent := false, retentionLost := low || s.power.retentionLost
         lostLatch := low || s.power.lostLatch }
       let kept := fun t : State => t.power = failed ∧ t.presenter.pending = [] ∧
         t.presenter.throttle = none ∧ (∀ g : Fin 7, t.presenter.gates[g] = .opened) ∧
         t.port = { s.port with held := none, serial := none } ∧
         t.clock.calendar = s.clock.calendar ∧ t.timeBase = s.timeBase ∧
         (∀ a, 0x0100 ≤ a → a < 0x0300 →
           Memory.read t.losses t.mem a = Memory.read s.losses s.mem a) ∧
         (t.group 5 ≠ s.group 5 → ∀ i, i < (Config.groupSpan 5).2 →
           Memory.read t.losses t.mem ((Config.groupSpan 5).1 + i) = (t.group 5).getD i 0)
       (s.on = true → s.claims.host.programs = false →
         ∃ t, exec (.mainsFailWarning low) s = .next t ∧ kept t ∧ t.requests = Requests.reset ∧
           t.claims = Claims.reset ∧ t.servo.drum = .off ∧ t.servo.cap = .off ∧ t.servo.reel = .off ∧
           t.transport.camMove = none ∧ t.transport.path = none ∧ t.transport.pinch = false ∧
           t.transport.control = none ∧ t.transport.owner = .none ∧
           t.transport.mode = safeMode s.sensors.cam ∧ t.position.locate = none ∧
           t.tuner.signal = .unpowered ∧ t.tuner.owner = .none ∧ t.tuner.scan = none ∧
           t.decoder = { s.decoder with powered := false, pendingRec := none, window := none } ∧
           t.clock.seek = none) ∧
       (s.on = true →
         ∃ t, exec (.mainsFailWarning low) s = .next t ∧ t.transport.order = none ∧
           t.transport.owner = .none ∧ t.transport.control = none ∧ t.claims = Claims.reset ∧
           t.servo.drumRef = .internal ∧ t.transport.fault = stopped ∧
           ∀ n : Fin 16,
             let cfg := s.endWrites.progCfg n
             let revoked := s.claims.host.programs
             (s.run n = none → t.run n = none ∧ (t.entry n).owned.outcome = (s.entry n).owned.outcome ∧
               (revoked = false → t.entry n = s.entry n)) ∧
             (∀ r, s.run n = some r →
               let i := { r with
                 powerGap := true, newStart := true, miss := .power, endTimer := none, holdOff := none
                 role := .waiter }
               (revoked = false ∨ (cfg.program && cfg.enable) = true →
                 (t.entry n).owned = { (s.entry n).owned with state := .interrupted } ∧ t.run n = some i) ∧
               (revoked = true → (cfg.program && cfg.enable) = false →
                 t.run n = none ∧ (t.entry n).owned.outcome = i.report (outcomeCode i .edited)))) ∧
       (s.on = false →
         ∃ t, exec (.mainsFailWarning low) s = .next t ∧ kept t ∧ t.transport = s.transport ∧
           t.servo = s.servo ∧ t.clock = s.clock ∧ t.tuner = s.tuner ∧ t.scheduler = s.scheduler)) ∧
     (s.power.mainsPresent = false → exec (.mainsFailWarning low) s = .next s) ∧
     (s.power.state = .retain → s.power.mainsPresent = false →
       exec .batteryLow s = .next { s with power := { s.power with retentionLost := true, lostLatch := true } }) ∧
     (s.power.mainsPresent = true → exec .batteryLow s = .next s ∧ exec (.mainsReturn a b) s = .next s) ∧
     (s.power.mainsPresent = false → s.power.lineAsserted = true →
       exec (.mainsReturn a b) s = .next { s with power.mainsPresent := true } ∧
       exec (.resetLineRelease a b) s = .next { s with power.lineAsserted := false }) ∧
     (s.power.lineAsserted = false → exec (.resetLineRelease a b) s = .next s) ∧
     (s.on = true → ∃ t, exec .resetLineAssert s = .next t ∧ t.power.lineSeen = true ∧
       t.power.lineAsserted = true ∧ t.on = false ∧ t.servo.drum = .off ∧ t.servo.cap = .off ∧
       t.servo.reel = .off ∧ t.transport.mode = safeMode s.sensors.cam ∧ t.transport.path = none ∧
       t.servo.drumRef = .internal ∧ t.transport.fault = stopped ∧ t.port.held = none ∧ t.port.serial = none ∧ t.clock = s.clock ∧ t.timeBase = s.timeBase) ∧
     (s.on = false → exec .resetLineAssert s
       = .next { s with power := { s.power with lineSeen := true, lineAsserted := true } }))

/-- R175, R176, R182, R195, R196, R202: a start (with the free storage as log 8 has it), at the mains return and at
the release of the line: its kind by the first case that holds, the power controller's values, the port mode from
the straps, the presenter's cause and CL 15, empty lanes and no hold, before the blocks declare what the start needs
(`x`), the mode at BETWEEN as log 57 has it. R142, R162, for the entries that deck memory holds in a running state,
each resumed from its retained run record (logs 37, 70; codes with no meaning read as none, log 87) and the
configuration as deck memory holds it (log 86), `y` being the state after the scheduler's part: at a warm start one
made UNUSED or disabled closes with end cause HOST, one whose window has ended with end cause POWER, and the others
become PENDING, with a holder among them and the scheduler's need; an ARMED entry whose validation end has passed
closes with MISSED_POWER; at a line start the running ones close with ABANDONED. The other entries' outcome records
stand, and at a cold start every entry is UNUSED. Deck memory but for the records written, the calendar and the time
base are kept by a warm and a line start and begin anew at a cold start. -/
def Obligations.StartsByKind : Prop :=
  ∀ (s : State) (a b : Bool) (c : Instr),
    (c = .mainsReturn a b ∧ s.power.mainsPresent = false ∧ s.power.lineAsserted = false) ∨
      (c = .resetLineRelease a b ∧ s.power.mainsPresent = true ∧ s.power.lineAsserted = true) →
    let kind : StartKind :=
      if s.power.retentionLost then .cold else if s.power.lineSeen then .line else .warm
    let kept : State := { s.endWrites with power.mainsPresent := true, power.lineAsserted := false }
    let o : State := if kind = .cold then { kept with mem := [], losses := s.losses + 1, timeBase := 0 } else kept
    let x := (if kind = .cold then o.coldMemory else entryNumbers.foldl State.emptySlot o).startBlocks kind
      (portModeOf a b)
    exec c s = .next (State.land o (State.publish o true
      ((State.settleEvent (x.startScheduler kind) (x.startScheduler kind)).keepWake kind))) ∧
    x.power = {
      state := .quiet, transportNeed := false, schedulerNeed := false, hostNeed := false, supply := .off
      settle := none, wake := if kind = .warm then .mainsReturn else .none, mainsPresent := true
      retentionLost := false
      lostLatch := (match kind with | .cold => true | .warm => false | .line => s.power.lostLatch)
      lineSeen := false, lineAsserted := false, startKind := kind } ∧
    x.port = { Port.reset with mode := if a && !b then .serial else .parallel } ∧
    x.presenter.pending
      = [⟨.power, match kind with | .cold => 0 | .warm => 1 | .line => 2⟩] ∧
    x.presenter.cl = 15 ∧ x.presenter.throttle = none ∧ x.requests = Requests.reset ∧
    x.claims = Claims.reset ∧ x.transport = { Transport.reset with
      mode := safeMode s.sensors.cam, path := some ⟨.rest, .cam, false, false⟩ } ∧
    x.decoder = Decoder.reset ∧ x.tuner.signal = .unpowered ∧ x.tuner.owner = .none ∧
    (kind = .cold → x.tuner.selection = .none ∧ x.clock.calendar = ⟨0, 0, 0⟩ ∧ x.clock.state = .unset ∧
      x.position = Position.reset ∧ x.remaining.fraction = none ∧ x.servo.tracking = 0 ∧ x.timeBase = 0) ∧
    (kind ≠ .cold → x.tuner.selection = s.tuner.selection ∧ x.clock.calendar = s.clock.calendar ∧
      x.clock.state = s.clock.state ∧ x.clock.window = [] ∧ x.timeBase = s.timeBase ∧
      (s.sensors.cam.base ≠ .eject → x.position.counter = s.position.counter ∧
        x.position.map = s.position.map ∧ x.remaining.fraction = s.remaining.fraction ∧
        x.servo.tracking = s.servo.tracking)) ∧
    (let y := x.startScheduler kind
     (kind = .cold → ∀ n : Fin 16, y.run n = none ∧ (y.entry n).owned = Owned.reset) ∧
     (kind ≠ .cold → ∀ n : Fin 16,
       let a := Config.entryBase n.val
       let b := Config.runRecordBase n.val
       let code := x.byteNat (a + 12) % 16
       let cfg := x.progCfg n
       let next := x.nextAt (a + 14)
       let r := x.runAt n cfg next
       let closed := fun (v : OutcomeRec) (day : Nat) =>
         y.run n = none ∧ (y.entry n).owned.outcome = v ∧
           (y.entry n).owned.lastClosed = (if cfg.program then some day else none) ∧
           ⟨.program, n.val⟩ ∈ y.presenter.pending
       let passed := fun e : NextStart => (e.minutes + cfg.validity) * 60 ≤ x.clock.calendar.seconds
       (x.time r = x.longInt (b + 4) + ((x.uptime : Int) - x.longNat b) ∧ r.newStart = true ∧
         r.lastLabel = none ∧ r.endTimer = none ∧ r.holdOff = none) ∧
       (4 ≤ code ∧ code ≤ 9 →
         (kind = .line → closed (r.report 17) r.occDay) ∧
         (kind = .warm →
           ((cfg.program && cfg.enable) = false → closed (r.report (outcomeCode r .edited)) r.occDay) ∧
           ((cfg.program && cfg.enable) = true →
             (x.time r < r.windowEnd → (y.entry n).owned.state = .pending ∧ ∃ role,
               y.run n = some { r with role := role, startTaken := decide (0 ≤ x.time r) }) ∧
             (r.windowEnd ≤ x.time r → closed (r.report (outcomeCode r (.cause .power))) r.occDay)))) ∧
       (code < 4 ∨ 9 < code → y.run n = none ∧
         (∀ e, kind = .warm → code = 3 → next = some e → passed e →
           closed (armedReport 14 e.day (cfg.speed x.servo.defaultSpeed)) e.day) ∧
         (kind = .line ∨ code ≠ 3 ∨ (∀ e, next = some e → ¬passed e) →
           (y.entry n).owned.outcome = (x.ownedAt n).outcome))) ∧
     (kind = .warm → (y.power.schedulerNeed = true ↔ ∃ n, (y.run n).isSome = true) ∧
       (∀ n, (y.run n).isSome = true → ∃ m r, y.run m = some r ∧ r.role = .holder)))

end
end

