-- ==== Sys2Proof/Laws/Memory.lean ====
section
/-! SUPPORT. Deck memory: every operation keeps the canonical form, and what a byte reads as after a write. -/
namespace Sys2Proof.Machine

/-! ### The canonical form -/

theorem Memory.wf_iff (k : Nat) (m : Memory) :
    Memory.wf k m = true ↔
      m.Pairwise (fun c d => c.1 < d.1) ∧
        ∀ c ∈ m, c.1 < Config.memBytes ∧ c.2 ≠ Memory.unlisted k c.1 := by
  simp [Memory.wf]

theorem Memory.mem_cells {k : Nat} {c : Host.Cell} :
    ∀ {bs : List Byte} {a : Nat}, c ∈ Memory.cells k a bs →
      a ≤ c.1 ∧ c.1 < a + bs.length ∧ c.1 < Config.memBytes ∧ c.2 ≠ Memory.unlisted k c.1
  | [], _, h => by simp [Memory.cells] at h
  | b :: bs, a, h => by
    unfold Memory.cells at h
    split at h
    · rcases List.mem_cons.1 h with rfl | h
      · simp_all
      · obtain ⟨h1, h2, h3⟩ := Memory.mem_cells h
        exact ⟨by omega, by simp only [List.length_cons]; omega, h3⟩
    · obtain ⟨h1, h2, h3⟩ := Memory.mem_cells h
      exact ⟨by omega, by simp only [List.length_cons]; omega, h3⟩

theorem Memory.cells_pairwise (k : Nat) :
    ∀ (bs : List Byte) (a : Nat), (Memory.cells k a bs).Pairwise (fun c d => c.1 < d.1)
  | [], _ => by simp [Memory.cells]
  | b :: bs, a => by
    unfold Memory.cells
    split
    · refine List.pairwise_cons.2 ⟨fun c h => ?_, Memory.cells_pairwise k bs (a + 1)⟩
      have := Memory.mem_cells h; simp; omega
    · exact Memory.cells_pairwise k bs (a + 1)

theorem Memory.writeBytes_wf {k : Nat} {m : Memory} (h : Memory.wf k m = true) (a : Nat)
    (bs : List Byte) : Memory.wf k (Memory.writeBytes k m a bs) = true := by
  rw [Memory.wf_iff] at h ⊢
  obtain ⟨hp, hm⟩ := h
  unfold Memory.writeBytes
  constructor
  · refine List.pairwise_append.2 ⟨List.pairwise_append.2 ⟨hp.filter _, cells_pairwise k bs a, ?_⟩,
      hp.filter _, ?_⟩
    · intro c hc d hd
      have := Memory.mem_cells hd
      simp at hc; omega
    · intro c hc d hd
      simp at hc hd
      rcases hc with hc | hc
      · omega
      · have := Memory.mem_cells hc; omega
  · intro c hc
    simp at hc
    rcases hc with hc | hc | hc
    · exact hm c hc.1
    · have := Memory.mem_cells hc; exact ⟨this.2.2.1, this.2.2.2⟩
    · exact hm c hc.1

theorem Memory.apply_wf {k : Nat} {m : Memory} (h : Memory.wf k m = true) :
    ∀ ws, Memory.wf k (Memory.apply k m ws) = true
  | [] => h
  | (a, bs) :: ws => Memory.writeBytes_wf (Memory.apply_wf h ws) a bs

theorem Memory.nil_wf (k : Nat) : Memory.wf k [] = true := by simp [Memory.wf]

theorem State.hostByte_memOk {s : State} (h : s.memOk = true) (a : Nat) (b : Byte) :
    (s.hostByte a b).memOk = true := by
  unfold State.hostByte
  split
  · exact h
  · exact Memory.writeBytes_wf h a [b]

theorem State.hostWord_memOk {s : State} (h : s.memOk = true) (a : Nat) (w : Word) :
    (s.hostWord a w).memOk = true := State.hostByte_memOk (State.hostByte_memOk h _ _) _ _

/-- The state right after reset has deck memory in its canonical form. -/
theorem State.reset_memory : Memory.wf State.reset.losses State.reset.mem = true := by
  simp [Memory.wf, State.reset]

/-! ### Reading after a write -/

theorem Memory.find_append (a : Nat) (m n : Memory) :
    (m ++ n).find? (fun c => c.1 == a) =
      (m.find? (fun c => c.1 == a)).or (n.find? (fun c => c.1 == a)) := by
  simp [List.find?_append]

/-- A byte outside the bytes written reads as before. -/
theorem Memory.read_writeBytes_outside {k : Nat} {m : Memory} {a x : Nat} {bs : List Byte}
    (h : x < a ∨ a + bs.length ≤ x) :
    Memory.read k (Memory.writeBytes k m a bs) x = Memory.read k m x := by
  have hc : (Memory.cells k a bs).find? (fun c => c.1 == x) = none := by
    rw [List.find?_eq_none]
    intro c hc
    have := Memory.mem_cells hc
    simp; omega
  have hf : ∀ (p : Host.Cell → Bool) (m : Memory), (∀ c ∈ m, c.1 = x → p c = true) →
      (m.filter p).find? (fun c => c.1 == x) = m.find? (fun c => c.1 == x) := by
    intro p m hp
    induction m with
    | nil => rfl
    | cons c m ih =>
      have ih := ih fun c hc => hp c (List.mem_cons_of_mem _ hc)
      by_cases hx : c.1 = x
      · simp [hp c (List.mem_cons_self ..) hx, hx]
      · by_cases hpc : p c = true
        · simp [hpc, hx, ih]
        · simp [hpc, hx, ih]
  have hn : ∀ (p : Host.Cell → Bool) (m : Memory), (∀ c ∈ m, c.1 = x → p c = false) →
      (m.filter p).find? (fun c => c.1 == x) = none := by
    intro p m hp
    rw [List.find?_eq_none]
    intro c hc
    simp only [List.mem_filter] at hc
    intro hx
    have := hp c hc.1 (by simpa using hx)
    simp_all
  unfold Memory.read Memory.writeBytes
  rw [Memory.find_append, Memory.find_append, hc]
  rcases h with h | h
  · rw [hf _ m (by intro c _ hx; simp; omega), hn _ m (by intro c _ hx; simp; omega)]
    simp
  · rw [hn _ m (by intro c _ hx; simp; omega), hf _ m (by intro c _ hx; simp; omega)]
    simp

/-- A byte among the bytes written, inside deck memory, reads as written. -/
theorem Memory.read_writeBytes_inside {k : Nat} {m : Memory} {a i : Nat} {bs : List Byte}
    (hi : i < bs.length) (ha : a + i < Config.memBytes) :
    Memory.read k (Memory.writeBytes k m a bs) (a + i) = bs[i] := by
  have hcells : ∀ (bs : List Byte) (a i : Nat) (hi : i < bs.length), a + i < Config.memBytes →
      ((Memory.cells k a bs).find? (fun c => c.1 == a + i) = some (a + i, bs[i]) ∧
        bs[i] ≠ Memory.unlisted k (a + i)) ∨
      ((Memory.cells k a bs).find? (fun c => c.1 == a + i) = none ∧
        bs[i] = Memory.unlisted k (a + i)) := by
    intro bs
    induction bs with
    | nil => intro a i hi; simp at hi
    | cons b bs ih =>
      intro a i hi ha
      cases i with
      | zero =>
        unfold Memory.cells
        by_cases hb : b = Memory.unlisted k a
        · right
          refine ⟨?_, by simpa using hb⟩
          have hno : ¬(a < Config.memBytes ∧ b ≠ Memory.unlisted k a) := by simp [hb]
          rw [if_neg hno, List.find?_eq_none]
          intro c hc
          have := Memory.mem_cells hc
          simp; omega
        · left
          have hyes : a < Config.memBytes ∧ b ≠ Memory.unlisted k a := ⟨by omega, hb⟩
          rw [if_pos hyes]
          simpa using hb
      | succ i =>
        have ih := ih (a + 1) i (by simpa using hi) (by omega)
        have he : a + 1 + i = a + (i + 1) := by omega
        rw [he] at ih
        unfold Memory.cells
        split
        · simpa [show (a == a + (i + 1)) = false by simp] using ih
        · simpa using ih
  have hlow : (m.filter fun c => decide (c.1 < a)).find? (fun c => c.1 == a + i) = none := by
    rw [List.find?_eq_none]
    intro c hc
    simp at hc; simp; omega
  have hhigh : (m.filter fun c => decide (a + bs.length ≤ c.1)).find? (fun c => c.1 == a + i) = none := by
    rw [List.find?_eq_none]
    intro c hc
    simp at hc; simp; omega
  unfold Memory.read Memory.writeBytes
  rw [Memory.find_append, Memory.find_append, hlow, hhigh]
  rcases hcells bs a i hi ha with ⟨h, _⟩ | ⟨h, h'⟩
  · simp [h]
  · simp [h, h']

/-- A byte that no record write of an event covers reads as before. -/
theorem Memory.read_apply_outside {k : Nat} {m : Memory} {x : Nat} :
    ∀ {ws : List (Nat × List Byte)}, (∀ w ∈ ws, x < w.1 ∨ w.1 + w.2.length ≤ x) →
      Memory.read k (Memory.apply k m ws) x = Memory.read k m x
  | [], _ => rfl
  | (a, bs) :: ws, h => by
    unfold Memory.apply
    rw [Memory.read_writeBytes_outside (h (a, bs) (List.mem_cons_self ..))]
    exact Memory.read_apply_outside fun w hw => h w (List.mem_cons_of_mem _ hw)

end Sys2Proof.Machine
end

