-- ==== Sys2Proof/Laws/State.lean ====
section
/-! SUPPORT. Each field under each elementary update of the state. -/
namespace Sys2Proof.Machine

/-! ### writeRecord -/

@[simp] theorem State.writeRecord_sensors (s : State) (a : Nat) (bs : List Byte) :
    (s.writeRecord a bs).sensors = s.sensors := rfl
@[simp] theorem State.writeRecord_transport (s : State) (a : Nat) (bs : List Byte) :
    (s.writeRecord a bs).transport = s.transport := rfl
@[simp] theorem State.writeRecord_servo (s : State) (a : Nat) (bs : List Byte) :
    (s.writeRecord a bs).servo = s.servo := rfl
@[simp] theorem State.writeRecord_position (s : State) (a : Nat) (bs : List Byte) :
    (s.writeRecord a bs).position = s.position := rfl
@[simp] theorem State.writeRecord_remaining (s : State) (a : Nat) (bs : List Byte) :
    (s.writeRecord a bs).remaining = s.remaining := rfl
@[simp] theorem State.writeRecord_tuner (s : State) (a : Nat) (bs : List Byte) :
    (s.writeRecord a bs).tuner = s.tuner := rfl
@[simp] theorem State.writeRecord_decoder (s : State) (a : Nat) (bs : List Byte) :
    (s.writeRecord a bs).decoder = s.decoder := rfl
@[simp] theorem State.writeRecord_clock (s : State) (a : Nat) (bs : List Byte) :
    (s.writeRecord a bs).clock = s.clock := rfl
@[simp] theorem State.writeRecord_scheduler (s : State) (a : Nat) (bs : List Byte) :
    (s.writeRecord a bs).scheduler = s.scheduler := rfl
@[simp] theorem State.writeRecord_power (s : State) (a : Nat) (bs : List Byte) :
    (s.writeRecord a bs).power = s.power := rfl
@[simp] theorem State.writeRecord_requests (s : State) (a : Nat) (bs : List Byte) :
    (s.writeRecord a bs).requests = s.requests := rfl
@[simp] theorem State.writeRecord_claims (s : State) (a : Nat) (bs : List Byte) :
    (s.writeRecord a bs).claims = s.claims := rfl
@[simp] theorem State.writeRecord_port (s : State) (a : Nat) (bs : List Byte) :
    (s.writeRecord a bs).port = s.port := rfl
@[simp] theorem State.writeRecord_presenter (s : State) (a : Nat) (bs : List Byte) :
    (s.writeRecord a bs).presenter = s.presenter := rfl
@[simp] theorem State.writeRecord_lamps (s : State) (a : Nat) (bs : List Byte) :
    (s.writeRecord a bs).lamps = s.lamps := rfl
@[simp] theorem State.writeRecord_mem (s : State) (a : Nat) (bs : List Byte) :
    (s.writeRecord a bs).mem = s.mem := rfl
@[simp] theorem State.writeRecord_losses (s : State) (a : Nat) (bs : List Byte) :
    (s.writeRecord a bs).losses = s.losses := rfl
@[simp] theorem State.writeRecord_draws (s : State) (a : Nat) (bs : List Byte) :
    (s.writeRecord a bs).draws = s.draws := rfl
@[simp] theorem State.writeRecord_interlock (s : State) (a : Nat) (bs : List Byte) :
    (s.writeRecord a bs).interlock = s.interlock := rfl
@[simp] theorem State.writeRecord_timeBase (s : State) (a : Nat) (bs : List Byte) :
    (s.writeRecord a bs).timeBase = s.timeBase := rfl
@[simp] theorem State.writeRecord_scratch (s : State) (a : Nat) (bs : List Byte) :
    (s.writeRecord a bs).scratch = { s.scratch with writes := (a, bs) :: s.scratch.writes } := rfl
@[simp] theorem State.writeRecord_pending (s : State) (a : Nat) (bs : List Byte) :
    (s.writeRecord a bs).pending = s.pending := rfl

/-! ### note -/

@[simp] theorem State.note_sensors (s : State) (n : Note) : (s.note n).sensors = s.sensors := rfl
@[simp] theorem State.note_transport (s : State) (n : Note) : (s.note n).transport = s.transport := rfl
@[simp] theorem State.note_servo (s : State) (n : Note) : (s.note n).servo = s.servo := rfl
@[simp] theorem State.note_position (s : State) (n : Note) : (s.note n).position = s.position := rfl
@[simp] theorem State.note_remaining (s : State) (n : Note) : (s.note n).remaining = s.remaining := rfl
@[simp] theorem State.note_tuner (s : State) (n : Note) : (s.note n).tuner = s.tuner := rfl
@[simp] theorem State.note_decoder (s : State) (n : Note) : (s.note n).decoder = s.decoder := rfl
@[simp] theorem State.note_clock (s : State) (n : Note) : (s.note n).clock = s.clock := rfl
@[simp] theorem State.note_scheduler (s : State) (n : Note) : (s.note n).scheduler = s.scheduler := rfl
@[simp] theorem State.note_power (s : State) (n : Note) : (s.note n).power = s.power := rfl
@[simp] theorem State.note_requests (s : State) (n : Note) : (s.note n).requests = s.requests := rfl
@[simp] theorem State.note_claims (s : State) (n : Note) : (s.note n).claims = s.claims := rfl
@[simp] theorem State.note_port (s : State) (n : Note) : (s.note n).port = s.port := rfl
@[simp] theorem State.note_presenter (s : State) (n : Note) : (s.note n).presenter = s.presenter := rfl
@[simp] theorem State.note_lamps (s : State) (n : Note) : (s.note n).lamps = s.lamps := rfl
@[simp] theorem State.note_mem (s : State) (n : Note) : (s.note n).mem = s.mem := rfl
@[simp] theorem State.note_losses (s : State) (n : Note) : (s.note n).losses = s.losses := rfl
@[simp] theorem State.note_draws (s : State) (n : Note) : (s.note n).draws = s.draws := rfl
@[simp] theorem State.note_interlock (s : State) (n : Note) : (s.note n).interlock = s.interlock := rfl
@[simp] theorem State.note_timeBase (s : State) (n : Note) : (s.note n).timeBase = s.timeBase := rfl
@[simp] theorem State.note_scratch (s : State) (n : Note) :
    (s.note n).scratch = { s.scratch with notes := s.scratch.notes ++ [n] } := rfl
@[simp] theorem State.note_pending (s : State) (n : Note) : (s.note n).pending = s.pending := rfl

/-! ### touch -/

@[simp] theorem State.touch_sensors (s : State) (g : Nat) : (s.touch g).sensors = s.sensors := rfl
@[simp] theorem State.touch_transport (s : State) (g : Nat) : (s.touch g).transport = s.transport := rfl
@[simp] theorem State.touch_servo (s : State) (g : Nat) : (s.touch g).servo = s.servo := rfl
@[simp] theorem State.touch_position (s : State) (g : Nat) : (s.touch g).position = s.position := rfl
@[simp] theorem State.touch_remaining (s : State) (g : Nat) : (s.touch g).remaining = s.remaining := rfl
@[simp] theorem State.touch_tuner (s : State) (g : Nat) : (s.touch g).tuner = s.tuner := rfl
@[simp] theorem State.touch_decoder (s : State) (g : Nat) : (s.touch g).decoder = s.decoder := rfl
@[simp] theorem State.touch_clock (s : State) (g : Nat) : (s.touch g).clock = s.clock := rfl
@[simp] theorem State.touch_scheduler (s : State) (g : Nat) : (s.touch g).scheduler = s.scheduler := rfl
@[simp] theorem State.touch_power (s : State) (g : Nat) : (s.touch g).power = s.power := rfl
@[simp] theorem State.touch_requests (s : State) (g : Nat) : (s.touch g).requests = s.requests := rfl
@[simp] theorem State.touch_claims (s : State) (g : Nat) : (s.touch g).claims = s.claims := rfl
@[simp] theorem State.touch_port (s : State) (g : Nat) : (s.touch g).port = s.port := rfl
@[simp] theorem State.touch_presenter (s : State) (g : Nat) : (s.touch g).presenter = s.presenter := rfl
@[simp] theorem State.touch_lamps (s : State) (g : Nat) : (s.touch g).lamps = s.lamps := rfl
@[simp] theorem State.touch_mem (s : State) (g : Nat) : (s.touch g).mem = s.mem := rfl
@[simp] theorem State.touch_losses (s : State) (g : Nat) : (s.touch g).losses = s.losses := rfl
@[simp] theorem State.touch_draws (s : State) (g : Nat) : (s.touch g).draws = s.draws := rfl
@[simp] theorem State.touch_interlock (s : State) (g : Nat) : (s.touch g).interlock = s.interlock := rfl
@[simp] theorem State.touch_timeBase (s : State) (g : Nat) : (s.touch g).timeBase = s.timeBase := rfl
@[simp] theorem State.touch_scratch (s : State) (g : Nat) :
    (s.touch g).scratch = { s.scratch with touched := g :: s.scratch.touched } := rfl
@[simp] theorem State.touch_pending (s : State) (g : Nat) : (s.touch g).pending = s.pending := rfl

/-! ### raise -/

@[simp] theorem State.raise_sensors (s : State) (k : CauseKind) (d : Nat) :
    (s.raise k d).sensors = s.sensors := rfl
@[simp] theorem State.raise_transport (s : State) (k : CauseKind) (d : Nat) :
    (s.raise k d).transport = s.transport := rfl
@[simp] theorem State.raise_servo (s : State) (k : CauseKind) (d : Nat) :
    (s.raise k d).servo = s.servo := rfl
@[simp] theorem State.raise_position (s : State) (k : CauseKind) (d : Nat) :
    (s.raise k d).position = s.position := rfl
@[simp] theorem State.raise_remaining (s : State) (k : CauseKind) (d : Nat) :
    (s.raise k d).remaining = s.remaining := rfl
@[simp] theorem State.raise_tuner (s : State) (k : CauseKind) (d : Nat) :
    (s.raise k d).tuner = s.tuner := rfl
@[simp] theorem State.raise_decoder (s : State) (k : CauseKind) (d : Nat) :
    (s.raise k d).decoder = s.decoder := rfl
@[simp] theorem State.raise_clock (s : State) (k : CauseKind) (d : Nat) :
    (s.raise k d).clock = s.clock := rfl
@[simp] theorem State.raise_scheduler (s : State) (k : CauseKind) (d : Nat) :
    (s.raise k d).scheduler = s.scheduler := rfl
@[simp] theorem State.raise_power (s : State) (k : CauseKind) (d : Nat) :
    (s.raise k d).power = s.power := rfl
@[simp] theorem State.raise_requests (s : State) (k : CauseKind) (d : Nat) :
    (s.raise k d).requests = s.requests := rfl
@[simp] theorem State.raise_claims (s : State) (k : CauseKind) (d : Nat) :
    (s.raise k d).claims = s.claims := rfl
@[simp] theorem State.raise_port (s : State) (k : CauseKind) (d : Nat) :
    (s.raise k d).port = s.port := rfl
@[simp] theorem State.raise_presenter (s : State) (k : CauseKind) (d : Nat) :
    (s.raise k d).presenter = { s.presenter with pending := Cause.insert ⟨k, d⟩ s.presenter.pending } := rfl
@[simp] theorem State.raise_lamps (s : State) (k : CauseKind) (d : Nat) :
    (s.raise k d).lamps = s.lamps := rfl
@[simp] theorem State.raise_mem (s : State) (k : CauseKind) (d : Nat) : (s.raise k d).mem = s.mem := rfl
@[simp] theorem State.raise_losses (s : State) (k : CauseKind) (d : Nat) :
    (s.raise k d).losses = s.losses := rfl
@[simp] theorem State.raise_draws (s : State) (k : CauseKind) (d : Nat) :
    (s.raise k d).draws = s.draws := rfl
@[simp] theorem State.raise_interlock (s : State) (k : CauseKind) (d : Nat) :
    (s.raise k d).interlock = s.interlock := rfl
@[simp] theorem State.raise_timeBase (s : State) (k : CauseKind) (d : Nat) :
    (s.raise k d).timeBase = s.timeBase := rfl
@[simp] theorem State.raise_scratch (s : State) (k : CauseKind) (d : Nat) :
    (s.raise k d).scratch = s.scratch := rfl
@[simp] theorem State.raise_pending (s : State) (k : CauseKind) (d : Nat) :
    (s.raise k d).pending = s.pending := rfl

/-! ### askClock -/

@[simp] theorem State.askClock_sensors (s : State) : s.askClock.sensors = s.sensors := rfl
@[simp] theorem State.askClock_transport (s : State) : s.askClock.transport = s.transport := rfl
@[simp] theorem State.askClock_servo (s : State) : s.askClock.servo = s.servo := rfl
@[simp] theorem State.askClock_position (s : State) : s.askClock.position = s.position := rfl
@[simp] theorem State.askClock_remaining (s : State) : s.askClock.remaining = s.remaining := rfl
@[simp] theorem State.askClock_tuner (s : State) : s.askClock.tuner = s.tuner := rfl
@[simp] theorem State.askClock_decoder (s : State) : s.askClock.decoder = s.decoder := rfl
@[simp] theorem State.askClock_clock (s : State) : s.askClock.clock = s.clock := rfl
@[simp] theorem State.askClock_scheduler (s : State) : s.askClock.scheduler = s.scheduler := rfl
@[simp] theorem State.askClock_power (s : State) : s.askClock.power = s.power := rfl
@[simp] theorem State.askClock_requests (s : State) : s.askClock.requests = s.requests := rfl
@[simp] theorem State.askClock_claims (s : State) : s.askClock.claims = s.claims := rfl
@[simp] theorem State.askClock_port (s : State) : s.askClock.port = s.port := rfl
@[simp] theorem State.askClock_presenter (s : State) : s.askClock.presenter = s.presenter := rfl
@[simp] theorem State.askClock_lamps (s : State) : s.askClock.lamps = s.lamps := rfl
@[simp] theorem State.askClock_mem (s : State) : s.askClock.mem = s.mem := rfl
@[simp] theorem State.askClock_losses (s : State) : s.askClock.losses = s.losses := rfl
@[simp] theorem State.askClock_draws (s : State) : s.askClock.draws = s.draws := rfl
@[simp] theorem State.askClock_interlock (s : State) : s.askClock.interlock = s.interlock := rfl
@[simp] theorem State.askClock_timeBase (s : State) : s.askClock.timeBase = s.timeBase := rfl
@[simp] theorem State.askClock_scratch (s : State) :
    s.askClock.scratch = { s.scratch with askClock := true } := rfl
@[simp] theorem State.askClock_pending (s : State) : s.askClock.pending = s.pending := rfl

/-! ### setEntry -/

@[simp] theorem State.setEntry_sensors (s : State) (n : Fin 16) (e : Entry) :
    (s.setEntry n e).sensors = s.sensors := rfl
@[simp] theorem State.setEntry_transport (s : State) (n : Fin 16) (e : Entry) :
    (s.setEntry n e).transport = s.transport := rfl
@[simp] theorem State.setEntry_servo (s : State) (n : Fin 16) (e : Entry) :
    (s.setEntry n e).servo = s.servo := rfl
@[simp] theorem State.setEntry_position (s : State) (n : Fin 16) (e : Entry) :
    (s.setEntry n e).position = s.position := rfl
@[simp] theorem State.setEntry_remaining (s : State) (n : Fin 16) (e : Entry) :
    (s.setEntry n e).remaining = s.remaining := rfl
@[simp] theorem State.setEntry_tuner (s : State) (n : Fin 16) (e : Entry) :
    (s.setEntry n e).tuner = s.tuner := rfl
@[simp] theorem State.setEntry_decoder (s : State) (n : Fin 16) (e : Entry) :
    (s.setEntry n e).decoder = s.decoder := rfl
@[simp] theorem State.setEntry_clock (s : State) (n : Fin 16) (e : Entry) :
    (s.setEntry n e).clock = s.clock := rfl
@[simp] theorem State.setEntry_scheduler (s : State) (n : Fin 16) (e : Entry) :
    (s.setEntry n e).scheduler = { s.scheduler with entries := s.scheduler.entries.set n e } := rfl
@[simp] theorem State.setEntry_power (s : State) (n : Fin 16) (e : Entry) :
    (s.setEntry n e).power = s.power := rfl
@[simp] theorem State.setEntry_requests (s : State) (n : Fin 16) (e : Entry) :
    (s.setEntry n e).requests = s.requests := rfl
@[simp] theorem State.setEntry_claims (s : State) (n : Fin 16) (e : Entry) :
    (s.setEntry n e).claims = s.claims := rfl
@[simp] theorem State.setEntry_port (s : State) (n : Fin 16) (e : Entry) :
    (s.setEntry n e).port = s.port := rfl
@[simp] theorem State.setEntry_presenter (s : State) (n : Fin 16) (e : Entry) :
    (s.setEntry n e).presenter = s.presenter := rfl
@[simp] theorem State.setEntry_lamps (s : State) (n : Fin 16) (e : Entry) :
    (s.setEntry n e).lamps = s.lamps := rfl
@[simp] theorem State.setEntry_mem (s : State) (n : Fin 16) (e : Entry) :
    (s.setEntry n e).mem = s.mem := rfl
@[simp] theorem State.setEntry_losses (s : State) (n : Fin 16) (e : Entry) :
    (s.setEntry n e).losses = s.losses := rfl
@[simp] theorem State.setEntry_draws (s : State) (n : Fin 16) (e : Entry) :
    (s.setEntry n e).draws = s.draws := rfl
@[simp] theorem State.setEntry_interlock (s : State) (n : Fin 16) (e : Entry) :
    (s.setEntry n e).interlock = s.interlock := rfl
@[simp] theorem State.setEntry_timeBase (s : State) (n : Fin 16) (e : Entry) :
    (s.setEntry n e).timeBase = s.timeBase := rfl
@[simp] theorem State.setEntry_scratch (s : State) (n : Fin 16) (e : Entry) :
    (s.setEntry n e).scratch = s.scratch := rfl
@[simp] theorem State.setEntry_pending (s : State) (n : Fin 16) (e : Entry) :
    (s.setEntry n e).pending = s.pending := rfl

/-! ### copySlot -/

@[simp] theorem State.copySlot_sensors (s : State) (n : Fin 16) (r : Request) :
    (s.copySlot n r).sensors = s.sensors := rfl
@[simp] theorem State.copySlot_transport (s : State) (n : Fin 16) (r : Request) :
    (s.copySlot n r).transport = s.transport := rfl
@[simp] theorem State.copySlot_servo (s : State) (n : Fin 16) (r : Request) :
    (s.copySlot n r).servo = s.servo := rfl
@[simp] theorem State.copySlot_position (s : State) (n : Fin 16) (r : Request) :
    (s.copySlot n r).position = s.position := rfl
@[simp] theorem State.copySlot_remaining (s : State) (n : Fin 16) (r : Request) :
    (s.copySlot n r).remaining = s.remaining := rfl
@[simp] theorem State.copySlot_tuner (s : State) (n : Fin 16) (r : Request) :
    (s.copySlot n r).tuner = s.tuner := rfl
@[simp] theorem State.copySlot_decoder (s : State) (n : Fin 16) (r : Request) :
    (s.copySlot n r).decoder = s.decoder := rfl
@[simp] theorem State.copySlot_clock (s : State) (n : Fin 16) (r : Request) :
    (s.copySlot n r).clock = s.clock := rfl
@[simp] theorem State.copySlot_scheduler (s : State) (n : Fin 16) (r : Request) :
    (s.copySlot n r).scheduler = s.scheduler := rfl
@[simp] theorem State.copySlot_power (s : State) (n : Fin 16) (r : Request) :
    (s.copySlot n r).power = s.power := rfl
@[simp] theorem State.copySlot_requests (s : State) (n : Fin 16) (r : Request) :
    (s.copySlot n r).requests = { s.requests with slots := s.requests.slots.set n (some r) } := rfl
@[simp] theorem State.copySlot_claims (s : State) (n : Fin 16) (r : Request) :
    (s.copySlot n r).claims = s.claims := rfl
@[simp] theorem State.copySlot_port (s : State) (n : Fin 16) (r : Request) :
    (s.copySlot n r).port = s.port := rfl
@[simp] theorem State.copySlot_presenter (s : State) (n : Fin 16) (r : Request) :
    (s.copySlot n r).presenter = s.presenter := rfl
@[simp] theorem State.copySlot_lamps (s : State) (n : Fin 16) (r : Request) :
    (s.copySlot n r).lamps = s.lamps := rfl
@[simp] theorem State.copySlot_mem (s : State) (n : Fin 16) (r : Request) :
    (s.copySlot n r).mem = s.mem := rfl
@[simp] theorem State.copySlot_losses (s : State) (n : Fin 16) (r : Request) :
    (s.copySlot n r).losses = s.losses := rfl
@[simp] theorem State.copySlot_draws (s : State) (n : Fin 16) (r : Request) :
    (s.copySlot n r).draws = s.draws := rfl
@[simp] theorem State.copySlot_interlock (s : State) (n : Fin 16) (r : Request) :
    (s.copySlot n r).interlock = s.interlock := rfl
@[simp] theorem State.copySlot_timeBase (s : State) (n : Fin 16) (r : Request) :
    (s.copySlot n r).timeBase = s.timeBase := rfl
@[simp] theorem State.copySlot_scratch (s : State) (n : Fin 16) (r : Request) :
    (s.copySlot n r).scratch = s.scratch := rfl
@[simp] theorem State.copySlot_pending (s : State) (n : Fin 16) (r : Request) :
    (s.copySlot n r).pending = s.pending := rfl

/-! ### frame -/

@[simp] theorem State.frame_sensors (s : State) (c : Byte) (ok : Bool) (w : Word) :
    (s.frame c ok w).sensors = s.sensors := rfl
@[simp] theorem State.frame_transport (s : State) (c : Byte) (ok : Bool) (w : Word) :
    (s.frame c ok w).transport = s.transport := rfl
@[simp] theorem State.frame_servo (s : State) (c : Byte) (ok : Bool) (w : Word) :
    (s.frame c ok w).servo = s.servo := rfl
@[simp] theorem State.frame_position (s : State) (c : Byte) (ok : Bool) (w : Word) :
    (s.frame c ok w).position = s.position := rfl
@[simp] theorem State.frame_remaining (s : State) (c : Byte) (ok : Bool) (w : Word) :
    (s.frame c ok w).remaining = s.remaining := rfl
@[simp] theorem State.frame_tuner (s : State) (c : Byte) (ok : Bool) (w : Word) :
    (s.frame c ok w).tuner = s.tuner := rfl
@[simp] theorem State.frame_decoder (s : State) (c : Byte) (ok : Bool) (w : Word) :
    (s.frame c ok w).decoder = s.decoder := rfl
@[simp] theorem State.frame_clock (s : State) (c : Byte) (ok : Bool) (w : Word) :
    (s.frame c ok w).clock = s.clock := rfl
@[simp] theorem State.frame_scheduler (s : State) (c : Byte) (ok : Bool) (w : Word) :
    (s.frame c ok w).scheduler = s.scheduler := rfl
@[simp] theorem State.frame_power (s : State) (c : Byte) (ok : Bool) (w : Word) :
    (s.frame c ok w).power = s.power := rfl
@[simp] theorem State.frame_requests (s : State) (c : Byte) (ok : Bool) (w : Word) :
    (s.frame c ok w).requests = s.requests := rfl
@[simp] theorem State.frame_claims (s : State) (c : Byte) (ok : Bool) (w : Word) :
    (s.frame c ok w).claims = s.claims := rfl
@[simp] theorem State.frame_port (s : State) (c : Byte) (ok : Bool) (w : Word) :
    (s.frame c ok w).port = { s.port with reply := some ⟨s.port.lastCommand, ok, w⟩, lastCommand := c } := rfl
@[simp] theorem State.frame_presenter (s : State) (c : Byte) (ok : Bool) (w : Word) :
    (s.frame c ok w).presenter = s.presenter := rfl
@[simp] theorem State.frame_lamps (s : State) (c : Byte) (ok : Bool) (w : Word) :
    (s.frame c ok w).lamps = s.lamps := rfl
@[simp] theorem State.frame_mem (s : State) (c : Byte) (ok : Bool) (w : Word) :
    (s.frame c ok w).mem = s.mem := rfl
@[simp] theorem State.frame_losses (s : State) (c : Byte) (ok : Bool) (w : Word) :
    (s.frame c ok w).losses = s.losses := rfl
@[simp] theorem State.frame_draws (s : State) (c : Byte) (ok : Bool) (w : Word) :
    (s.frame c ok w).draws = s.draws := rfl
@[simp] theorem State.frame_interlock (s : State) (c : Byte) (ok : Bool) (w : Word) :
    (s.frame c ok w).interlock = s.interlock := rfl
@[simp] theorem State.frame_timeBase (s : State) (c : Byte) (ok : Bool) (w : Word) :
    (s.frame c ok w).timeBase = s.timeBase := rfl
@[simp] theorem State.frame_scratch (s : State) (c : Byte) (ok : Bool) (w : Word) :
    (s.frame c ok w).scratch = s.scratch := rfl
@[simp] theorem State.frame_pending (s : State) (c : Byte) (ok : Bool) (w : Word) :
    (s.frame c ok w).pending = s.pending := rfl

/-! ### camSensed -/

@[simp] theorem State.camSensed_sensors (s : State) (p : CamPos) :
    (s.camSensed p).sensors = { s.sensors with cam := .at p } := rfl
@[simp] theorem State.camSensed_transport (s : State) (p : CamPos) :
    (s.camSensed p).transport = s.transport := rfl
@[simp] theorem State.camSensed_servo (s : State) (p : CamPos) : (s.camSensed p).servo = s.servo := rfl
@[simp] theorem State.camSensed_position (s : State) (p : CamPos) :
    (s.camSensed p).position = s.position := rfl
@[simp] theorem State.camSensed_remaining (s : State) (p : CamPos) :
    (s.camSensed p).remaining = s.remaining := rfl
@[simp] theorem State.camSensed_tuner (s : State) (p : CamPos) : (s.camSensed p).tuner = s.tuner := rfl
@[simp] theorem State.camSensed_decoder (s : State) (p : CamPos) :
    (s.camSensed p).decoder = s.decoder := rfl
@[simp] theorem State.camSensed_clock (s : State) (p : CamPos) : (s.camSensed p).clock = s.clock := rfl
@[simp] theorem State.camSensed_scheduler (s : State) (p : CamPos) :
    (s.camSensed p).scheduler = s.scheduler := rfl
@[simp] theorem State.camSensed_power (s : State) (p : CamPos) : (s.camSensed p).power = s.power := rfl
@[simp] theorem State.camSensed_requests (s : State) (p : CamPos) :
    (s.camSensed p).requests = s.requests := rfl
@[simp] theorem State.camSensed_claims (s : State) (p : CamPos) :
    (s.camSensed p).claims = s.claims := rfl
@[simp] theorem State.camSensed_port (s : State) (p : CamPos) : (s.camSensed p).port = s.port := rfl
@[simp] theorem State.camSensed_presenter (s : State) (p : CamPos) :
    (s.camSensed p).presenter = s.presenter := rfl
@[simp] theorem State.camSensed_lamps (s : State) (p : CamPos) : (s.camSensed p).lamps = s.lamps := rfl
@[simp] theorem State.camSensed_mem (s : State) (p : CamPos) : (s.camSensed p).mem = s.mem := rfl
@[simp] theorem State.camSensed_losses (s : State) (p : CamPos) :
    (s.camSensed p).losses = s.losses := rfl
@[simp] theorem State.camSensed_draws (s : State) (p : CamPos) :
    (s.camSensed p).draws = s.draws := rfl
@[simp] theorem State.camSensed_interlock (s : State) (p : CamPos) :
    (s.camSensed p).interlock = s.interlock := rfl
@[simp] theorem State.camSensed_timeBase (s : State) (p : CamPos) :
    (s.camSensed p).timeBase = s.timeBase := rfl
@[simp] theorem State.camSensed_scratch (s : State) (p : CamPos) :
    (s.camSensed p).scratch = s.scratch := rfl
@[simp] theorem State.camSensed_pending (s : State) (p : CamPos) :
    (s.camSensed p).pending = s.pending := rfl

/-! ### emptyVotes -/

@[simp] theorem State.emptyVotes_sensors (s : State) : s.emptyVotes.sensors = s.sensors := rfl
@[simp] theorem State.emptyVotes_transport (s : State) : s.emptyVotes.transport = s.transport := rfl
@[simp] theorem State.emptyVotes_servo (s : State) : s.emptyVotes.servo = s.servo := rfl
@[simp] theorem State.emptyVotes_position (s : State) : s.emptyVotes.position = s.position := rfl
@[simp] theorem State.emptyVotes_remaining (s : State) : s.emptyVotes.remaining = s.remaining := rfl
@[simp] theorem State.emptyVotes_tuner (s : State) : s.emptyVotes.tuner = s.tuner := rfl
@[simp] theorem State.emptyVotes_decoder (s : State) : s.emptyVotes.decoder = s.decoder := rfl
@[simp] theorem State.emptyVotes_clock (s : State) :
    s.emptyVotes.clock = { s.clock with window := [] } := rfl
@[simp] theorem State.emptyVotes_scheduler (s : State) : s.emptyVotes.scheduler = s.scheduler := rfl
@[simp] theorem State.emptyVotes_power (s : State) : s.emptyVotes.power = s.power := rfl
@[simp] theorem State.emptyVotes_requests (s : State) : s.emptyVotes.requests = s.requests := rfl
@[simp] theorem State.emptyVotes_claims (s : State) : s.emptyVotes.claims = s.claims := rfl
@[simp] theorem State.emptyVotes_port (s : State) : s.emptyVotes.port = s.port := rfl
@[simp] theorem State.emptyVotes_presenter (s : State) : s.emptyVotes.presenter = s.presenter := rfl
@[simp] theorem State.emptyVotes_lamps (s : State) : s.emptyVotes.lamps = s.lamps := rfl
@[simp] theorem State.emptyVotes_mem (s : State) : s.emptyVotes.mem = s.mem := rfl
@[simp] theorem State.emptyVotes_losses (s : State) : s.emptyVotes.losses = s.losses := rfl
@[simp] theorem State.emptyVotes_draws (s : State) : s.emptyVotes.draws = s.draws := rfl
@[simp] theorem State.emptyVotes_interlock (s : State) : s.emptyVotes.interlock = s.interlock := rfl
@[simp] theorem State.emptyVotes_timeBase (s : State) : s.emptyVotes.timeBase = s.timeBase := rfl
@[simp] theorem State.emptyVotes_scratch (s : State) : s.emptyVotes.scratch = s.scratch := rfl
@[simp] theorem State.emptyVotes_pending (s : State) : s.emptyVotes.pending = s.pending := rfl

/-! ### handClock -/

@[simp] theorem State.handClock_sensors (s : State) : s.handClock.sensors = s.sensors := rfl
@[simp] theorem State.handClock_transport (s : State) : s.handClock.transport = s.transport := rfl
@[simp] theorem State.handClock_servo (s : State) : s.handClock.servo = s.servo := rfl
@[simp] theorem State.handClock_position (s : State) : s.handClock.position = s.position := rfl
@[simp] theorem State.handClock_remaining (s : State) : s.handClock.remaining = s.remaining := rfl
@[simp] theorem State.handClock_tuner (s : State) : s.handClock.tuner = s.tuner := rfl
@[simp] theorem State.handClock_decoder (s : State) : s.handClock.decoder = s.decoder := rfl
@[simp] theorem State.handClock_clock (s : State) : s.handClock.clock = s.clock := rfl
@[simp] theorem State.handClock_scheduler (s : State) :
    s.handClock.scheduler = { s.scheduler with clockHanded := s.clock.state } := rfl
@[simp] theorem State.handClock_power (s : State) : s.handClock.power = s.power := rfl
@[simp] theorem State.handClock_requests (s : State) : s.handClock.requests = s.requests := rfl
@[simp] theorem State.handClock_claims (s : State) : s.handClock.claims = s.claims := rfl
@[simp] theorem State.handClock_port (s : State) : s.handClock.port = s.port := rfl
@[simp] theorem State.handClock_presenter (s : State) : s.handClock.presenter = s.presenter := rfl
@[simp] theorem State.handClock_lamps (s : State) : s.handClock.lamps = s.lamps := rfl
@[simp] theorem State.handClock_mem (s : State) : s.handClock.mem = s.mem := rfl
@[simp] theorem State.handClock_losses (s : State) : s.handClock.losses = s.losses := rfl
@[simp] theorem State.handClock_draws (s : State) : s.handClock.draws = s.draws := rfl
@[simp] theorem State.handClock_interlock (s : State) : s.handClock.interlock = s.interlock := rfl
@[simp] theorem State.handClock_timeBase (s : State) : s.handClock.timeBase = s.timeBase := rfl
@[simp] theorem State.handClock_scratch (s : State) : s.handClock.scratch = s.scratch := rfl
@[simp] theorem State.handClock_pending (s : State) : s.handClock.pending = s.pending := rfl

end Sys2Proof.Machine
end

