-- ==== Sys2Proof/Laws/Frames.lean ====
section
/-! SUPPORT. What each shared operation leaves of the state: one lemma per field it keeps. -/

-- One proof at a time: many at once wait on one another, each with a thread and its stack.
set_option Elab.async false

namespace Sys2Proof.Machine

/-! ### askStatus -/

@[simp] theorem State.askStatus_sensors (s : State) (g : Fin 7) :
    (s.askStatus g).sensors = s.sensors := by unfold State.askStatus; (try dsimp only); (repeat' split) <;> simp
@[simp] theorem State.askStatus_transport (s : State) (g : Fin 7) :
    (s.askStatus g).transport = s.transport := by unfold State.askStatus; (try dsimp only); (repeat' split) <;> simp
@[simp] theorem State.askStatus_servo (s : State) (g : Fin 7) :
    (s.askStatus g).servo = s.servo := by unfold State.askStatus; (try dsimp only); (repeat' split) <;> simp
@[simp] theorem State.askStatus_position (s : State) (g : Fin 7) :
    (s.askStatus g).position = s.position := by unfold State.askStatus; (try dsimp only); (repeat' split) <;> simp
@[simp] theorem State.askStatus_remaining (s : State) (g : Fin 7) :
    (s.askStatus g).remaining = s.remaining := by unfold State.askStatus; (try dsimp only); (repeat' split) <;> simp
@[simp] theorem State.askStatus_tuner (s : State) (g : Fin 7) :
    (s.askStatus g).tuner = s.tuner := by unfold State.askStatus; (try dsimp only); (repeat' split) <;> simp
@[simp] theorem State.askStatus_decoder (s : State) (g : Fin 7) :
    (s.askStatus g).decoder = s.decoder := by unfold State.askStatus; (try dsimp only); (repeat' split) <;> simp
@[simp] theorem State.askStatus_clock (s : State) (g : Fin 7) :
    (s.askStatus g).clock = s.clock := by unfold State.askStatus; (try dsimp only); (repeat' split) <;> simp
@[simp] theorem State.askStatus_scheduler (s : State) (g : Fin 7) :
    (s.askStatus g).scheduler = s.scheduler := by unfold State.askStatus; (try dsimp only); (repeat' split) <;> simp
@[simp] theorem State.askStatus_power (s : State) (g : Fin 7) :
    (s.askStatus g).power = s.power := by unfold State.askStatus; (try dsimp only); (repeat' split) <;> simp
@[simp] theorem State.askStatus_requests (s : State) (g : Fin 7) :
    (s.askStatus g).requests = s.requests := by unfold State.askStatus; (try dsimp only); (repeat' split) <;> simp
@[simp] theorem State.askStatus_claims (s : State) (g : Fin 7) :
    (s.askStatus g).claims = s.claims := by unfold State.askStatus; (try dsimp only); (repeat' split) <;> simp
@[simp] theorem State.askStatus_port (s : State) (g : Fin 7) :
    (s.askStatus g).port = s.port := by unfold State.askStatus; (try dsimp only); (repeat' split) <;> simp
@[simp] theorem State.askStatus_lamps (s : State) (g : Fin 7) :
    (s.askStatus g).lamps = s.lamps := by unfold State.askStatus; (try dsimp only); (repeat' split) <;> simp
@[simp] theorem State.askStatus_mem (s : State) (g : Fin 7) :
    (s.askStatus g).mem = s.mem := by unfold State.askStatus; (try dsimp only); (repeat' split) <;> simp
@[simp] theorem State.askStatus_losses (s : State) (g : Fin 7) :
    (s.askStatus g).losses = s.losses := by unfold State.askStatus; (try dsimp only); (repeat' split) <;> simp
@[simp] theorem State.askStatus_draws (s : State) (g : Fin 7) :
    (s.askStatus g).draws = s.draws := by unfold State.askStatus; (try dsimp only); (repeat' split) <;> simp
@[simp] theorem State.askStatus_interlock (s : State) (g : Fin 7) :
    (s.askStatus g).interlock = s.interlock := by unfold State.askStatus; (try dsimp only); (repeat' split) <;> simp
@[simp] theorem State.askStatus_timeBase (s : State) (g : Fin 7) :
    (s.askStatus g).timeBase = s.timeBase := by unfold State.askStatus; (try dsimp only); (repeat' split) <;> simp
@[simp] theorem State.askStatus_scratch (s : State) (g : Fin 7) :
    (s.askStatus g).scratch = s.scratch := by unfold State.askStatus; (try dsimp only); (repeat' split) <;> simp
@[simp] theorem State.askStatus_pending (s : State) (g : Fin 7) :
    (s.askStatus g).pending = s.pending := by unfold State.askStatus; (try dsimp only); (repeat' split) <;> simp

/-! ### setLane -/

@[simp] theorem State.setLane_sensors (s : State) (l : Lane) (n : Option (Fin 16)) :
    (s.setLane l n).sensors = s.sensors := by cases l <;> rfl
@[simp] theorem State.setLane_transport (s : State) (l : Lane) (n : Option (Fin 16)) :
    (s.setLane l n).transport = s.transport := by cases l <;> rfl
@[simp] theorem State.setLane_servo (s : State) (l : Lane) (n : Option (Fin 16)) :
    (s.setLane l n).servo = s.servo := by cases l <;> rfl
@[simp] theorem State.setLane_position (s : State) (l : Lane) (n : Option (Fin 16)) :
    (s.setLane l n).position = s.position := by cases l <;> rfl
@[simp] theorem State.setLane_remaining (s : State) (l : Lane) (n : Option (Fin 16)) :
    (s.setLane l n).remaining = s.remaining := by cases l <;> rfl
@[simp] theorem State.setLane_tuner (s : State) (l : Lane) (n : Option (Fin 16)) :
    (s.setLane l n).tuner = s.tuner := by cases l <;> rfl
@[simp] theorem State.setLane_decoder (s : State) (l : Lane) (n : Option (Fin 16)) :
    (s.setLane l n).decoder = s.decoder := by cases l <;> rfl
@[simp] theorem State.setLane_clock (s : State) (l : Lane) (n : Option (Fin 16)) :
    (s.setLane l n).clock = s.clock := by cases l <;> rfl
@[simp] theorem State.setLane_scheduler (s : State) (l : Lane) (n : Option (Fin 16)) :
    (s.setLane l n).scheduler = s.scheduler := by cases l <;> rfl
@[simp] theorem State.setLane_power (s : State) (l : Lane) (n : Option (Fin 16)) :
    (s.setLane l n).power = s.power := by cases l <;> rfl
@[simp] theorem State.setLane_claims (s : State) (l : Lane) (n : Option (Fin 16)) :
    (s.setLane l n).claims = s.claims := by cases l <;> rfl
@[simp] theorem State.setLane_port (s : State) (l : Lane) (n : Option (Fin 16)) :
    (s.setLane l n).port = s.port := by cases l <;> rfl
@[simp] theorem State.setLane_presenter (s : State) (l : Lane) (n : Option (Fin 16)) :
    (s.setLane l n).presenter = s.presenter := by cases l <;> rfl
@[simp] theorem State.setLane_lamps (s : State) (l : Lane) (n : Option (Fin 16)) :
    (s.setLane l n).lamps = s.lamps := by cases l <;> rfl
@[simp] theorem State.setLane_mem (s : State) (l : Lane) (n : Option (Fin 16)) :
    (s.setLane l n).mem = s.mem := by cases l <;> rfl
@[simp] theorem State.setLane_losses (s : State) (l : Lane) (n : Option (Fin 16)) :
    (s.setLane l n).losses = s.losses := by cases l <;> rfl
@[simp] theorem State.setLane_draws (s : State) (l : Lane) (n : Option (Fin 16)) :
    (s.setLane l n).draws = s.draws := by cases l <;> rfl
@[simp] theorem State.setLane_interlock (s : State) (l : Lane) (n : Option (Fin 16)) :
    (s.setLane l n).interlock = s.interlock := by cases l <;> rfl
@[simp] theorem State.setLane_timeBase (s : State) (l : Lane) (n : Option (Fin 16)) :
    (s.setLane l n).timeBase = s.timeBase := by cases l <;> rfl
@[simp] theorem State.setLane_scratch (s : State) (l : Lane) (n : Option (Fin 16)) :
    (s.setLane l n).scratch = s.scratch := by cases l <;> rfl
@[simp] theorem State.setLane_pending (s : State) (l : Lane) (n : Option (Fin 16)) :
    (s.setLane l n).pending = s.pending := by cases l <;> rfl

/-! ### finishSlot -/

@[simp] theorem State.finishSlot_sensors (s : State) (n : Fin 16) (o : ReqOutcome) (y : Reason) (w : List Byte) :
    (s.finishSlot n o y w).sensors = s.sensors := by unfold State.finishSlot; split <;> simp
@[simp] theorem State.finishSlot_transport (s : State) (n : Fin 16) (o : ReqOutcome) (y : Reason) (w : List Byte) :
    (s.finishSlot n o y w).transport = s.transport := by unfold State.finishSlot; split <;> simp
@[simp] theorem State.finishSlot_servo (s : State) (n : Fin 16) (o : ReqOutcome) (y : Reason) (w : List Byte) :
    (s.finishSlot n o y w).servo = s.servo := by unfold State.finishSlot; split <;> simp
@[simp] theorem State.finishSlot_position (s : State) (n : Fin 16) (o : ReqOutcome) (y : Reason) (w : List Byte) :
    (s.finishSlot n o y w).position = s.position := by unfold State.finishSlot; split <;> simp
@[simp] theorem State.finishSlot_remaining (s : State) (n : Fin 16) (o : ReqOutcome) (y : Reason) (w : List Byte) :
    (s.finishSlot n o y w).remaining = s.remaining := by unfold State.finishSlot; split <;> simp
@[simp] theorem State.finishSlot_tuner (s : State) (n : Fin 16) (o : ReqOutcome) (y : Reason) (w : List Byte) :
    (s.finishSlot n o y w).tuner = s.tuner := by unfold State.finishSlot; split <;> simp
@[simp] theorem State.finishSlot_decoder (s : State) (n : Fin 16) (o : ReqOutcome) (y : Reason) (w : List Byte) :
    (s.finishSlot n o y w).decoder = s.decoder := by unfold State.finishSlot; split <;> simp
@[simp] theorem State.finishSlot_clock (s : State) (n : Fin 16) (o : ReqOutcome) (y : Reason) (w : List Byte) :
    (s.finishSlot n o y w).clock = s.clock := by unfold State.finishSlot; split <;> simp
@[simp] theorem State.finishSlot_scheduler (s : State) (n : Fin 16) (o : ReqOutcome) (y : Reason) (w : List Byte) :
    (s.finishSlot n o y w).scheduler = s.scheduler := by unfold State.finishSlot; split <;> simp
@[simp] theorem State.finishSlot_power (s : State) (n : Fin 16) (o : ReqOutcome) (y : Reason) (w : List Byte) :
    (s.finishSlot n o y w).power = s.power := by unfold State.finishSlot; split <;> simp
@[simp] theorem State.finishSlot_claims (s : State) (n : Fin 16) (o : ReqOutcome) (y : Reason) (w : List Byte) :
    (s.finishSlot n o y w).claims = s.claims := by unfold State.finishSlot; split <;> simp
@[simp] theorem State.finishSlot_port (s : State) (n : Fin 16) (o : ReqOutcome) (y : Reason) (w : List Byte) :
    (s.finishSlot n o y w).port = s.port := by unfold State.finishSlot; split <;> simp
@[simp] theorem State.finishSlot_lamps (s : State) (n : Fin 16) (o : ReqOutcome) (y : Reason) (w : List Byte) :
    (s.finishSlot n o y w).lamps = s.lamps := by unfold State.finishSlot; split <;> simp
@[simp] theorem State.finishSlot_mem (s : State) (n : Fin 16) (o : ReqOutcome) (y : Reason) (w : List Byte) :
    (s.finishSlot n o y w).mem = s.mem := by unfold State.finishSlot; split <;> simp
@[simp] theorem State.finishSlot_losses (s : State) (n : Fin 16) (o : ReqOutcome) (y : Reason) (w : List Byte) :
    (s.finishSlot n o y w).losses = s.losses := by unfold State.finishSlot; split <;> simp
@[simp] theorem State.finishSlot_draws (s : State) (n : Fin 16) (o : ReqOutcome) (y : Reason) (w : List Byte) :
    (s.finishSlot n o y w).draws = s.draws := by unfold State.finishSlot; split <;> simp
@[simp] theorem State.finishSlot_interlock (s : State) (n : Fin 16) (o : ReqOutcome) (y : Reason) (w : List Byte) :
    (s.finishSlot n o y w).interlock = s.interlock := by unfold State.finishSlot; split <;> simp
@[simp] theorem State.finishSlot_timeBase (s : State) (n : Fin 16) (o : ReqOutcome) (y : Reason) (w : List Byte) :
    (s.finishSlot n o y w).timeBase = s.timeBase := by unfold State.finishSlot; split <;> simp
@[simp] theorem State.finishSlot_pending (s : State) (n : Fin 16) (o : ReqOutcome) (y : Reason) (w : List Byte) :
    (s.finishSlot n o y w).pending = s.pending := by unfold State.finishSlot; split <;> simp

/-! ### finishLane -/

@[simp] theorem State.finishLane_sensors (s : State) (l : Lane) (o : ReqOutcome) (y : Reason) (w : List Byte) :
    (s.finishLane l o y w).sensors = s.sensors := by unfold State.finishLane; split <;> simp
@[simp] theorem State.finishLane_transport (s : State) (l : Lane) (o : ReqOutcome) (y : Reason) (w : List Byte) :
    (s.finishLane l o y w).transport = s.transport := by unfold State.finishLane; split <;> simp
@[simp] theorem State.finishLane_servo (s : State) (l : Lane) (o : ReqOutcome) (y : Reason) (w : List Byte) :
    (s.finishLane l o y w).servo = s.servo := by unfold State.finishLane; split <;> simp
@[simp] theorem State.finishLane_position (s : State) (l : Lane) (o : ReqOutcome) (y : Reason) (w : List Byte) :
    (s.finishLane l o y w).position = s.position := by unfold State.finishLane; split <;> simp
@[simp] theorem State.finishLane_remaining (s : State) (l : Lane) (o : ReqOutcome) (y : Reason) (w : List Byte) :
    (s.finishLane l o y w).remaining = s.remaining := by unfold State.finishLane; split <;> simp
@[simp] theorem State.finishLane_tuner (s : State) (l : Lane) (o : ReqOutcome) (y : Reason) (w : List Byte) :
    (s.finishLane l o y w).tuner = s.tuner := by unfold State.finishLane; split <;> simp
@[simp] theorem State.finishLane_decoder (s : State) (l : Lane) (o : ReqOutcome) (y : Reason) (w : List Byte) :
    (s.finishLane l o y w).decoder = s.decoder := by unfold State.finishLane; split <;> simp
@[simp] theorem State.finishLane_clock (s : State) (l : Lane) (o : ReqOutcome) (y : Reason) (w : List Byte) :
    (s.finishLane l o y w).clock = s.clock := by unfold State.finishLane; split <;> simp
@[simp] theorem State.finishLane_scheduler (s : State) (l : Lane) (o : ReqOutcome) (y : Reason) (w : List Byte) :
    (s.finishLane l o y w).scheduler = s.scheduler := by unfold State.finishLane; split <;> simp
@[simp] theorem State.finishLane_power (s : State) (l : Lane) (o : ReqOutcome) (y : Reason) (w : List Byte) :
    (s.finishLane l o y w).power = s.power := by unfold State.finishLane; split <;> simp
@[simp] theorem State.finishLane_claims (s : State) (l : Lane) (o : ReqOutcome) (y : Reason) (w : List Byte) :
    (s.finishLane l o y w).claims = s.claims := by unfold State.finishLane; split <;> simp
@[simp] theorem State.finishLane_port (s : State) (l : Lane) (o : ReqOutcome) (y : Reason) (w : List Byte) :
    (s.finishLane l o y w).port = s.port := by unfold State.finishLane; split <;> simp
@[simp] theorem State.finishLane_lamps (s : State) (l : Lane) (o : ReqOutcome) (y : Reason) (w : List Byte) :
    (s.finishLane l o y w).lamps = s.lamps := by unfold State.finishLane; split <;> simp
@[simp] theorem State.finishLane_mem (s : State) (l : Lane) (o : ReqOutcome) (y : Reason) (w : List Byte) :
    (s.finishLane l o y w).mem = s.mem := by unfold State.finishLane; split <;> simp
@[simp] theorem State.finishLane_losses (s : State) (l : Lane) (o : ReqOutcome) (y : Reason) (w : List Byte) :
    (s.finishLane l o y w).losses = s.losses := by unfold State.finishLane; split <;> simp
@[simp] theorem State.finishLane_draws (s : State) (l : Lane) (o : ReqOutcome) (y : Reason) (w : List Byte) :
    (s.finishLane l o y w).draws = s.draws := by unfold State.finishLane; split <;> simp
@[simp] theorem State.finishLane_interlock (s : State) (l : Lane) (o : ReqOutcome) (y : Reason) (w : List Byte) :
    (s.finishLane l o y w).interlock = s.interlock := by unfold State.finishLane; split <;> simp
@[simp] theorem State.finishLane_timeBase (s : State) (l : Lane) (o : ReqOutcome) (y : Reason) (w : List Byte) :
    (s.finishLane l o y w).timeBase = s.timeBase := by unfold State.finishLane; split <;> simp
@[simp] theorem State.finishLane_pending (s : State) (l : Lane) (o : ReqOutcome) (y : Reason) (w : List Byte) :
    (s.finishLane l o y w).pending = s.pending := by unfold State.finishLane; split <;> simp

/-! ### takeLane -/

@[simp] theorem State.takeLane_sensors (s : State) (l : Lane) (n : Fin 16) :
    (s.takeLane l n).sensors = s.sensors := by simp [State.takeLane]
@[simp] theorem State.takeLane_transport (s : State) (l : Lane) (n : Fin 16) :
    (s.takeLane l n).transport = s.transport := by simp [State.takeLane]
@[simp] theorem State.takeLane_servo (s : State) (l : Lane) (n : Fin 16) :
    (s.takeLane l n).servo = s.servo := by simp [State.takeLane]
@[simp] theorem State.takeLane_position (s : State) (l : Lane) (n : Fin 16) :
    (s.takeLane l n).position = s.position := by simp [State.takeLane]
@[simp] theorem State.takeLane_remaining (s : State) (l : Lane) (n : Fin 16) :
    (s.takeLane l n).remaining = s.remaining := by simp [State.takeLane]
@[simp] theorem State.takeLane_tuner (s : State) (l : Lane) (n : Fin 16) :
    (s.takeLane l n).tuner = s.tuner := by simp [State.takeLane]
@[simp] theorem State.takeLane_decoder (s : State) (l : Lane) (n : Fin 16) :
    (s.takeLane l n).decoder = s.decoder := by simp [State.takeLane]
@[simp] theorem State.takeLane_clock (s : State) (l : Lane) (n : Fin 16) :
    (s.takeLane l n).clock = s.clock := by simp [State.takeLane]
@[simp] theorem State.takeLane_scheduler (s : State) (l : Lane) (n : Fin 16) :
    (s.takeLane l n).scheduler = s.scheduler := by simp [State.takeLane]
@[simp] theorem State.takeLane_power (s : State) (l : Lane) (n : Fin 16) :
    (s.takeLane l n).power = s.power := by simp [State.takeLane]
@[simp] theorem State.takeLane_claims (s : State) (l : Lane) (n : Fin 16) :
    (s.takeLane l n).claims = s.claims := by simp [State.takeLane]
@[simp] theorem State.takeLane_port (s : State) (l : Lane) (n : Fin 16) :
    (s.takeLane l n).port = s.port := by simp [State.takeLane]
@[simp] theorem State.takeLane_lamps (s : State) (l : Lane) (n : Fin 16) :
    (s.takeLane l n).lamps = s.lamps := by simp [State.takeLane]
@[simp] theorem State.takeLane_mem (s : State) (l : Lane) (n : Fin 16) :
    (s.takeLane l n).mem = s.mem := by simp [State.takeLane]
@[simp] theorem State.takeLane_losses (s : State) (l : Lane) (n : Fin 16) :
    (s.takeLane l n).losses = s.losses := by simp [State.takeLane]
@[simp] theorem State.takeLane_draws (s : State) (l : Lane) (n : Fin 16) :
    (s.takeLane l n).draws = s.draws := by simp [State.takeLane]
@[simp] theorem State.takeLane_interlock (s : State) (l : Lane) (n : Fin 16) :
    (s.takeLane l n).interlock = s.interlock := by simp [State.takeLane]
@[simp] theorem State.takeLane_timeBase (s : State) (l : Lane) (n : Fin 16) :
    (s.takeLane l n).timeBase = s.timeBase := by simp [State.takeLane]
@[simp] theorem State.takeLane_pending (s : State) (l : Lane) (n : Fin 16) :
    (s.takeLane l n).pending = s.pending := by simp [State.takeLane]

/-! ### hostByte -/

@[simp] theorem State.hostByte_sensors (s : State) (x : Nat) (b : Byte) :
    (s.hostByte x b).sensors = s.sensors := by unfold State.hostByte; split <;> simp
@[simp] theorem State.hostByte_transport (s : State) (x : Nat) (b : Byte) :
    (s.hostByte x b).transport = s.transport := by unfold State.hostByte; split <;> simp
@[simp] theorem State.hostByte_servo (s : State) (x : Nat) (b : Byte) :
    (s.hostByte x b).servo = s.servo := by unfold State.hostByte; split <;> simp
@[simp] theorem State.hostByte_position (s : State) (x : Nat) (b : Byte) :
    (s.hostByte x b).position = s.position := by unfold State.hostByte; split <;> simp
@[simp] theorem State.hostByte_remaining (s : State) (x : Nat) (b : Byte) :
    (s.hostByte x b).remaining = s.remaining := by unfold State.hostByte; split <;> simp
@[simp] theorem State.hostByte_tuner (s : State) (x : Nat) (b : Byte) :
    (s.hostByte x b).tuner = s.tuner := by unfold State.hostByte; split <;> simp
@[simp] theorem State.hostByte_decoder (s : State) (x : Nat) (b : Byte) :
    (s.hostByte x b).decoder = s.decoder := by unfold State.hostByte; split <;> simp
@[simp] theorem State.hostByte_clock (s : State) (x : Nat) (b : Byte) :
    (s.hostByte x b).clock = s.clock := by unfold State.hostByte; split <;> simp
@[simp] theorem State.hostByte_scheduler (s : State) (x : Nat) (b : Byte) :
    (s.hostByte x b).scheduler = s.scheduler := by unfold State.hostByte; split <;> simp
@[simp] theorem State.hostByte_power (s : State) (x : Nat) (b : Byte) :
    (s.hostByte x b).power = s.power := by unfold State.hostByte; split <;> simp
@[simp] theorem State.hostByte_requests (s : State) (x : Nat) (b : Byte) :
    (s.hostByte x b).requests = s.requests := by unfold State.hostByte; split <;> simp
@[simp] theorem State.hostByte_claims (s : State) (x : Nat) (b : Byte) :
    (s.hostByte x b).claims = s.claims := by unfold State.hostByte; split <;> simp
@[simp] theorem State.hostByte_port (s : State) (x : Nat) (b : Byte) :
    (s.hostByte x b).port = s.port := by unfold State.hostByte; split <;> simp
@[simp] theorem State.hostByte_presenter (s : State) (x : Nat) (b : Byte) :
    (s.hostByte x b).presenter = s.presenter := by unfold State.hostByte; split <;> simp
@[simp] theorem State.hostByte_lamps (s : State) (x : Nat) (b : Byte) :
    (s.hostByte x b).lamps = s.lamps := by unfold State.hostByte; split <;> simp
@[simp] theorem State.hostByte_losses (s : State) (x : Nat) (b : Byte) :
    (s.hostByte x b).losses = s.losses := by unfold State.hostByte; split <;> simp
@[simp] theorem State.hostByte_draws (s : State) (x : Nat) (b : Byte) :
    (s.hostByte x b).draws = s.draws := by unfold State.hostByte; split <;> simp
@[simp] theorem State.hostByte_interlock (s : State) (x : Nat) (b : Byte) :
    (s.hostByte x b).interlock = s.interlock := by unfold State.hostByte; split <;> simp
@[simp] theorem State.hostByte_timeBase (s : State) (x : Nat) (b : Byte) :
    (s.hostByte x b).timeBase = s.timeBase := by unfold State.hostByte; split <;> simp
@[simp] theorem State.hostByte_scratch (s : State) (x : Nat) (b : Byte) :
    (s.hostByte x b).scratch = s.scratch := by unfold State.hostByte; split <;> simp
@[simp] theorem State.hostByte_pending (s : State) (x : Nat) (b : Byte) :
    (s.hostByte x b).pending = s.pending := by unfold State.hostByte; split <;> simp

/-! ### hostWord -/

@[simp] theorem State.hostWord_sensors (s : State) (x : Nat) (w : Word) :
    (s.hostWord x w).sensors = s.sensors := by simp [State.hostWord]
@[simp] theorem State.hostWord_transport (s : State) (x : Nat) (w : Word) :
    (s.hostWord x w).transport = s.transport := by simp [State.hostWord]
@[simp] theorem State.hostWord_servo (s : State) (x : Nat) (w : Word) :
    (s.hostWord x w).servo = s.servo := by simp [State.hostWord]
@[simp] theorem State.hostWord_position (s : State) (x : Nat) (w : Word) :
    (s.hostWord x w).position = s.position := by simp [State.hostWord]
@[simp] theorem State.hostWord_remaining (s : State) (x : Nat) (w : Word) :
    (s.hostWord x w).remaining = s.remaining := by simp [State.hostWord]
@[simp] theorem State.hostWord_tuner (s : State) (x : Nat) (w : Word) :
    (s.hostWord x w).tuner = s.tuner := by simp [State.hostWord]
@[simp] theorem State.hostWord_decoder (s : State) (x : Nat) (w : Word) :
    (s.hostWord x w).decoder = s.decoder := by simp [State.hostWord]
@[simp] theorem State.hostWord_clock (s : State) (x : Nat) (w : Word) :
    (s.hostWord x w).clock = s.clock := by simp [State.hostWord]
@[simp] theorem State.hostWord_scheduler (s : State) (x : Nat) (w : Word) :
    (s.hostWord x w).scheduler = s.scheduler := by simp [State.hostWord]
@[simp] theorem State.hostWord_power (s : State) (x : Nat) (w : Word) :
    (s.hostWord x w).power = s.power := by simp [State.hostWord]
@[simp] theorem State.hostWord_requests (s : State) (x : Nat) (w : Word) :
    (s.hostWord x w).requests = s.requests := by simp [State.hostWord]
@[simp] theorem State.hostWord_claims (s : State) (x : Nat) (w : Word) :
    (s.hostWord x w).claims = s.claims := by simp [State.hostWord]
@[simp] theorem State.hostWord_port (s : State) (x : Nat) (w : Word) :
    (s.hostWord x w).port = s.port := by simp [State.hostWord]
@[simp] theorem State.hostWord_presenter (s : State) (x : Nat) (w : Word) :
    (s.hostWord x w).presenter = s.presenter := by simp [State.hostWord]
@[simp] theorem State.hostWord_lamps (s : State) (x : Nat) (w : Word) :
    (s.hostWord x w).lamps = s.lamps := by simp [State.hostWord]
@[simp] theorem State.hostWord_losses (s : State) (x : Nat) (w : Word) :
    (s.hostWord x w).losses = s.losses := by simp [State.hostWord]
@[simp] theorem State.hostWord_draws (s : State) (x : Nat) (w : Word) :
    (s.hostWord x w).draws = s.draws := by simp [State.hostWord]
@[simp] theorem State.hostWord_interlock (s : State) (x : Nat) (w : Word) :
    (s.hostWord x w).interlock = s.interlock := by simp [State.hostWord]
@[simp] theorem State.hostWord_timeBase (s : State) (x : Nat) (w : Word) :
    (s.hostWord x w).timeBase = s.timeBase := by simp [State.hostWord]
@[simp] theorem State.hostWord_scratch (s : State) (x : Nat) (w : Word) :
    (s.hostWord x w).scratch = s.scratch := by simp [State.hostWord]
@[simp] theorem State.hostWord_pending (s : State) (x : Nat) (w : Word) :
    (s.hostWord x w).pending = s.pending := by simp [State.hostWord]

/-! ### serve -/

@[simp] theorem State.serve_sensors (s : State) (x : Access) :
    (s.serve x).sensors = s.sensors := by cases x <;> simp [State.serve]
@[simp] theorem State.serve_transport (s : State) (x : Access) :
    (s.serve x).transport = s.transport := by cases x <;> simp [State.serve]
@[simp] theorem State.serve_servo (s : State) (x : Access) :
    (s.serve x).servo = s.servo := by cases x <;> simp [State.serve]
@[simp] theorem State.serve_position (s : State) (x : Access) :
    (s.serve x).position = s.position := by cases x <;> simp [State.serve]
@[simp] theorem State.serve_remaining (s : State) (x : Access) :
    (s.serve x).remaining = s.remaining := by cases x <;> simp [State.serve]
@[simp] theorem State.serve_tuner (s : State) (x : Access) :
    (s.serve x).tuner = s.tuner := by cases x <;> simp [State.serve]
@[simp] theorem State.serve_decoder (s : State) (x : Access) :
    (s.serve x).decoder = s.decoder := by cases x <;> simp [State.serve]
@[simp] theorem State.serve_clock (s : State) (x : Access) :
    (s.serve x).clock = s.clock := by cases x <;> simp [State.serve]
@[simp] theorem State.serve_scheduler (s : State) (x : Access) :
    (s.serve x).scheduler = s.scheduler := by cases x <;> simp [State.serve]
@[simp] theorem State.serve_power (s : State) (x : Access) :
    (s.serve x).power = s.power := by cases x <;> simp [State.serve]
@[simp] theorem State.serve_requests (s : State) (x : Access) :
    (s.serve x).requests = s.requests := by cases x <;> simp [State.serve]
@[simp] theorem State.serve_claims (s : State) (x : Access) :
    (s.serve x).claims = s.claims := by cases x <;> simp [State.serve]
@[simp] theorem State.serve_presenter (s : State) (x : Access) :
    (s.serve x).presenter = s.presenter := by cases x <;> simp [State.serve]
@[simp] theorem State.serve_lamps (s : State) (x : Access) :
    (s.serve x).lamps = s.lamps := by cases x <;> simp [State.serve]
@[simp] theorem State.serve_losses (s : State) (x : Access) :
    (s.serve x).losses = s.losses := by cases x <;> simp [State.serve]
@[simp] theorem State.serve_draws (s : State) (x : Access) :
    (s.serve x).draws = s.draws := by cases x <;> simp [State.serve]
@[simp] theorem State.serve_interlock (s : State) (x : Access) :
    (s.serve x).interlock = s.interlock := by cases x <;> simp [State.serve]
@[simp] theorem State.serve_timeBase (s : State) (x : Access) :
    (s.serve x).timeBase = s.timeBase := by cases x <;> simp [State.serve]
@[simp] theorem State.serve_scratch (s : State) (x : Access) :
    (s.serve x).scratch = s.scratch := by cases x <;> simp [State.serve]
@[simp] theorem State.serve_pending (s : State) (x : Access) :
    (s.serve x).pending = s.pending := by cases x <;> simp [State.serve]

/-! ### serveHeld -/

@[simp] theorem State.serveHeld_sensors (s : State) :
    s.serveHeld.sensors = s.sensors := by unfold State.serveHeld; split <;> simp
@[simp] theorem State.serveHeld_transport (s : State) :
    s.serveHeld.transport = s.transport := by unfold State.serveHeld; split <;> simp
@[simp] theorem State.serveHeld_servo (s : State) :
    s.serveHeld.servo = s.servo := by unfold State.serveHeld; split <;> simp
@[simp] theorem State.serveHeld_position (s : State) :
    s.serveHeld.position = s.position := by unfold State.serveHeld; split <;> simp
@[simp] theorem State.serveHeld_remaining (s : State) :
    s.serveHeld.remaining = s.remaining := by unfold State.serveHeld; split <;> simp
@[simp] theorem State.serveHeld_tuner (s : State) :
    s.serveHeld.tuner = s.tuner := by unfold State.serveHeld; split <;> simp
@[simp] theorem State.serveHeld_decoder (s : State) :
    s.serveHeld.decoder = s.decoder := by unfold State.serveHeld; split <;> simp
@[simp] theorem State.serveHeld_clock (s : State) :
    s.serveHeld.clock = s.clock := by unfold State.serveHeld; split <;> simp
@[simp] theorem State.serveHeld_scheduler (s : State) :
    s.serveHeld.scheduler = s.scheduler := by unfold State.serveHeld; split <;> simp
@[simp] theorem State.serveHeld_power (s : State) :
    s.serveHeld.power = s.power := by unfold State.serveHeld; split <;> simp
@[simp] theorem State.serveHeld_requests (s : State) :
    s.serveHeld.requests = s.requests := by unfold State.serveHeld; split <;> simp
@[simp] theorem State.serveHeld_claims (s : State) :
    s.serveHeld.claims = s.claims := by unfold State.serveHeld; split <;> simp
@[simp] theorem State.serveHeld_presenter (s : State) :
    s.serveHeld.presenter = s.presenter := by unfold State.serveHeld; split <;> simp
@[simp] theorem State.serveHeld_lamps (s : State) :
    s.serveHeld.lamps = s.lamps := by unfold State.serveHeld; split <;> simp
@[simp] theorem State.serveHeld_losses (s : State) :
    s.serveHeld.losses = s.losses := by unfold State.serveHeld; split <;> simp
@[simp] theorem State.serveHeld_draws (s : State) :
    s.serveHeld.draws = s.draws := by unfold State.serveHeld; split <;> simp
@[simp] theorem State.serveHeld_interlock (s : State) :
    s.serveHeld.interlock = s.interlock := by unfold State.serveHeld; split <;> simp
@[simp] theorem State.serveHeld_timeBase (s : State) :
    s.serveHeld.timeBase = s.timeBase := by unfold State.serveHeld; split <;> simp
@[simp] theorem State.serveHeld_scratch (s : State) :
    s.serveHeld.scratch = s.scratch := by unfold State.serveHeld; split <;> simp
@[simp] theorem State.serveHeld_pending (s : State) :
    s.serveHeld.pending = s.pending := by unfold State.serveHeld; split <;> simp

/-! ### serveSerial -/

@[simp] theorem State.serveSerial_sensors (s : State) :
    s.serveSerial.sensors = s.sensors := by unfold State.serveSerial; (try dsimp only); (repeat' split) <;> simp
@[simp] theorem State.serveSerial_transport (s : State) :
    s.serveSerial.transport = s.transport := by unfold State.serveSerial; (try dsimp only); (repeat' split) <;> simp
@[simp] theorem State.serveSerial_servo (s : State) :
    s.serveSerial.servo = s.servo := by unfold State.serveSerial; (try dsimp only); (repeat' split) <;> simp
@[simp] theorem State.serveSerial_position (s : State) :
    s.serveSerial.position = s.position := by unfold State.serveSerial; (try dsimp only); (repeat' split) <;> simp
@[simp] theorem State.serveSerial_remaining (s : State) :
    s.serveSerial.remaining = s.remaining := by unfold State.serveSerial; (try dsimp only); (repeat' split) <;> simp
@[simp] theorem State.serveSerial_tuner (s : State) :
    s.serveSerial.tuner = s.tuner := by unfold State.serveSerial; (try dsimp only); (repeat' split) <;> simp
@[simp] theorem State.serveSerial_decoder (s : State) :
    s.serveSerial.decoder = s.decoder := by unfold State.serveSerial; (try dsimp only); (repeat' split) <;> simp
@[simp] theorem State.serveSerial_clock (s : State) :
    s.serveSerial.clock = s.clock := by unfold State.serveSerial; (try dsimp only); (repeat' split) <;> simp
@[simp] theorem State.serveSerial_scheduler (s : State) :
    s.serveSerial.scheduler = s.scheduler := by unfold State.serveSerial; (try dsimp only); (repeat' split) <;> simp
@[simp] theorem State.serveSerial_power (s : State) :
    s.serveSerial.power = s.power := by unfold State.serveSerial; (try dsimp only); (repeat' split) <;> simp
@[simp] theorem State.serveSerial_requests (s : State) :
    s.serveSerial.requests = s.requests := by unfold State.serveSerial; (try dsimp only); (repeat' split) <;> simp
@[simp] theorem State.serveSerial_claims (s : State) :
    s.serveSerial.claims = s.claims := by unfold State.serveSerial; (try dsimp only); (repeat' split) <;> simp
@[simp] theorem State.serveSerial_presenter (s : State) :
    s.serveSerial.presenter = s.presenter := by unfold State.serveSerial; (try dsimp only); (repeat' split) <;> simp
@[simp] theorem State.serveSerial_lamps (s : State) :
    s.serveSerial.lamps = s.lamps := by unfold State.serveSerial; (try dsimp only); (repeat' split) <;> simp
@[simp] theorem State.serveSerial_losses (s : State) :
    s.serveSerial.losses = s.losses := by unfold State.serveSerial; (try dsimp only); (repeat' split) <;> simp
@[simp] theorem State.serveSerial_draws (s : State) :
    s.serveSerial.draws = s.draws := by unfold State.serveSerial; (try dsimp only); (repeat' split) <;> simp
@[simp] theorem State.serveSerial_interlock (s : State) :
    s.serveSerial.interlock = s.interlock := by unfold State.serveSerial; (try dsimp only); (repeat' split) <;> simp
@[simp] theorem State.serveSerial_timeBase (s : State) :
    s.serveSerial.timeBase = s.timeBase := by unfold State.serveSerial; (try dsimp only); (repeat' split) <;> simp
@[simp] theorem State.serveSerial_scratch (s : State) :
    s.serveSerial.scratch = s.scratch := by unfold State.serveSerial; (try dsimp only); (repeat' split) <;> simp
@[simp] theorem State.serveSerial_pending (s : State) :
    s.serveSerial.pending = s.pending := by unfold State.serveSerial; (try dsimp only); (repeat' split) <;> simp

/-! ### endWrites -/

@[simp] theorem State.endWrites_sensors (s : State) :
    s.endWrites.sensors = s.sensors := rfl
@[simp] theorem State.endWrites_transport (s : State) :
    s.endWrites.transport = s.transport := rfl
@[simp] theorem State.endWrites_servo (s : State) :
    s.endWrites.servo = s.servo := rfl
@[simp] theorem State.endWrites_position (s : State) :
    s.endWrites.position = s.position := rfl
@[simp] theorem State.endWrites_remaining (s : State) :
    s.endWrites.remaining = s.remaining := rfl
@[simp] theorem State.endWrites_tuner (s : State) :
    s.endWrites.tuner = s.tuner := rfl
@[simp] theorem State.endWrites_decoder (s : State) :
    s.endWrites.decoder = s.decoder := rfl
@[simp] theorem State.endWrites_clock (s : State) :
    s.endWrites.clock = s.clock := rfl
@[simp] theorem State.endWrites_scheduler (s : State) :
    s.endWrites.scheduler = s.scheduler := rfl
@[simp] theorem State.endWrites_power (s : State) :
    s.endWrites.power = s.power := rfl
@[simp] theorem State.endWrites_requests (s : State) :
    s.endWrites.requests = s.requests := rfl
@[simp] theorem State.endWrites_claims (s : State) :
    s.endWrites.claims = s.claims := rfl
@[simp] theorem State.endWrites_port (s : State) :
    s.endWrites.port = s.port := rfl
@[simp] theorem State.endWrites_presenter (s : State) :
    s.endWrites.presenter = s.presenter := rfl
@[simp] theorem State.endWrites_lamps (s : State) :
    s.endWrites.lamps = s.lamps := rfl
@[simp] theorem State.endWrites_mem (s : State) :
    s.endWrites.mem = s.mem := rfl
@[simp] theorem State.endWrites_losses (s : State) :
    s.endWrites.losses = s.losses := rfl
@[simp] theorem State.endWrites_draws (s : State) :
    s.endWrites.draws = s.draws := rfl
@[simp] theorem State.endWrites_timeBase (s : State) :
    s.endWrites.timeBase = s.timeBase := rfl
@[simp] theorem State.endWrites_pending (s : State) :
    s.endWrites.pending = s.pending := rfl
@[simp] theorem State.endWrites_interlock (s : State) : s.endWrites.interlock = [] := rfl
@[simp] theorem State.endWrites_scratch (s : State) : s.endWrites.scratch = Scratch.clear := rfl

/-! ### afterWrites -/

@[simp] theorem State.afterWrites_sensors (s : State) :
    s.afterWrites.sensors = s.sensors := by simp [State.afterWrites]
@[simp] theorem State.afterWrites_transport (s : State) :
    s.afterWrites.transport = s.transport := by simp [State.afterWrites]
@[simp] theorem State.afterWrites_servo (s : State) :
    s.afterWrites.servo = s.servo := by simp [State.afterWrites]
@[simp] theorem State.afterWrites_position (s : State) :
    s.afterWrites.position = s.position := by simp [State.afterWrites]
@[simp] theorem State.afterWrites_remaining (s : State) :
    s.afterWrites.remaining = s.remaining := by simp [State.afterWrites]
@[simp] theorem State.afterWrites_tuner (s : State) :
    s.afterWrites.tuner = s.tuner := by simp [State.afterWrites]
@[simp] theorem State.afterWrites_decoder (s : State) :
    s.afterWrites.decoder = s.decoder := by simp [State.afterWrites]
@[simp] theorem State.afterWrites_clock (s : State) :
    s.afterWrites.clock = s.clock := by simp [State.afterWrites]
@[simp] theorem State.afterWrites_scheduler (s : State) :
    s.afterWrites.scheduler = s.scheduler := by simp [State.afterWrites]
@[simp] theorem State.afterWrites_power (s : State) :
    s.afterWrites.power = s.power := by simp [State.afterWrites]
@[simp] theorem State.afterWrites_requests (s : State) :
    s.afterWrites.requests = s.requests := by simp [State.afterWrites]
@[simp] theorem State.afterWrites_claims (s : State) :
    s.afterWrites.claims = s.claims := by simp [State.afterWrites]
@[simp] theorem State.afterWrites_presenter (s : State) :
    s.afterWrites.presenter = s.presenter := by simp [State.afterWrites]
@[simp] theorem State.afterWrites_lamps (s : State) :
    s.afterWrites.lamps = s.lamps := by simp [State.afterWrites]
@[simp] theorem State.afterWrites_losses (s : State) :
    s.afterWrites.losses = s.losses := by simp [State.afterWrites]
@[simp] theorem State.afterWrites_draws (s : State) :
    s.afterWrites.draws = s.draws := by simp [State.afterWrites]
@[simp] theorem State.afterWrites_timeBase (s : State) :
    s.afterWrites.timeBase = s.timeBase := by simp [State.afterWrites]
@[simp] theorem State.afterWrites_pending (s : State) :
    s.afterWrites.pending = s.pending := by simp [State.afterWrites]

@[simp] theorem State.afterWrites_interlock (s : State) : s.afterWrites.interlock = [] := by simp [State.afterWrites]
@[simp] theorem State.afterWrites_scratch (s : State) : s.afterWrites.scratch = Scratch.clear := by
  simp [State.afterWrites]

/-! ### through -/

@[simp] theorem State.through_sensors (s : State) :
    s.through.sensors = s.sensors := by unfold State.through; split <;> simp
@[simp] theorem State.through_transport (s : State) :
    s.through.transport = s.transport := by unfold State.through; split <;> simp
@[simp] theorem State.through_servo (s : State) :
    s.through.servo = s.servo := by unfold State.through; split <;> simp
@[simp] theorem State.through_position (s : State) :
    s.through.position = s.position := by unfold State.through; split <;> simp
@[simp] theorem State.through_remaining (s : State) :
    s.through.remaining = s.remaining := by unfold State.through; split <;> simp
@[simp] theorem State.through_tuner (s : State) :
    s.through.tuner = s.tuner := by unfold State.through; split <;> simp
@[simp] theorem State.through_decoder (s : State) :
    s.through.decoder = s.decoder := by unfold State.through; split <;> simp
@[simp] theorem State.through_clock (s : State) :
    s.through.clock = s.clock := by unfold State.through; split <;> simp
@[simp] theorem State.through_scheduler (s : State) :
    s.through.scheduler = s.scheduler := by unfold State.through; split <;> simp
@[simp] theorem State.through_power (s : State) :
    s.through.power = s.power := by unfold State.through; split <;> simp
@[simp] theorem State.through_requests (s : State) :
    s.through.requests = s.requests := by unfold State.through; split <;> simp
@[simp] theorem State.through_claims (s : State) :
    s.through.claims = s.claims := by unfold State.through; split <;> simp
@[simp] theorem State.through_presenter (s : State) :
    s.through.presenter = s.presenter := by unfold State.through; split <;> simp
@[simp] theorem State.through_lamps (s : State) :
    s.through.lamps = s.lamps := by unfold State.through; split <;> simp
@[simp] theorem State.through_mem (s : State) : s.through.mem = s.mem := by unfold State.through; split <;> simp
@[simp] theorem State.through_losses (s : State) :
    s.through.losses = s.losses := by unfold State.through; split <;> simp
@[simp] theorem State.through_draws (s : State) :
    s.through.draws = s.draws := by unfold State.through; split <;> simp
@[simp] theorem State.through_interlock (s : State) :
    s.through.interlock = s.interlock := by unfold State.through; split <;> simp
@[simp] theorem State.through_timeBase (s : State) :
    s.through.timeBase = s.timeBase := by unfold State.through; split <;> simp
@[simp] theorem State.through_scratch (s : State) :
    s.through.scratch = s.scratch := by unfold State.through; split <;> simp
@[simp] theorem State.through_pending (s : State) :
    s.through.pending = s.pending := by unfold State.through; split <;> simp

/-! ### posted -/

@[simp] theorem State.posted_sensors (s : State) (w : Word) :
    (s.posted w).sensors = s.sensors := by simp [State.posted]
@[simp] theorem State.posted_transport (s : State) (w : Word) :
    (s.posted w).transport = s.transport := by simp [State.posted]
@[simp] theorem State.posted_servo (s : State) (w : Word) :
    (s.posted w).servo = s.servo := by simp [State.posted]
@[simp] theorem State.posted_position (s : State) (w : Word) :
    (s.posted w).position = s.position := by simp [State.posted]
@[simp] theorem State.posted_remaining (s : State) (w : Word) :
    (s.posted w).remaining = s.remaining := by simp [State.posted]
@[simp] theorem State.posted_tuner (s : State) (w : Word) :
    (s.posted w).tuner = s.tuner := by simp [State.posted]
@[simp] theorem State.posted_decoder (s : State) (w : Word) :
    (s.posted w).decoder = s.decoder := by simp [State.posted]
@[simp] theorem State.posted_clock (s : State) (w : Word) :
    (s.posted w).clock = s.clock := by simp [State.posted]
@[simp] theorem State.posted_scheduler (s : State) (w : Word) :
    (s.posted w).scheduler = s.scheduler := by simp [State.posted]
@[simp] theorem State.posted_power (s : State) (w : Word) :
    (s.posted w).power = s.power := by simp [State.posted]
@[simp] theorem State.posted_requests (s : State) (w : Word) :
    (s.posted w).requests = s.requests := by simp [State.posted]
@[simp] theorem State.posted_claims (s : State) (w : Word) :
    (s.posted w).claims = s.claims := by simp [State.posted]
@[simp] theorem State.posted_presenter (s : State) (w : Word) :
    (s.posted w).presenter = s.presenter := by simp [State.posted]
@[simp] theorem State.posted_lamps (s : State) (w : Word) :
    (s.posted w).lamps = s.lamps := by simp [State.posted]
@[simp] theorem State.posted_losses (s : State) (w : Word) :
    (s.posted w).losses = s.losses := by simp [State.posted]
@[simp] theorem State.posted_draws (s : State) (w : Word) :
    (s.posted w).draws = s.draws := by simp [State.posted]
@[simp] theorem State.posted_timeBase (s : State) (w : Word) :
    (s.posted w).timeBase = s.timeBase := by simp [State.posted]
@[simp] theorem State.posted_pending (s : State) (w : Word) :
    (s.posted w).pending = s.pending := by simp [State.posted]

@[simp] theorem State.posted_interlock (s : State) (w : Word) : (s.posted w).interlock = [] := by
  simp [State.posted]
@[simp] theorem State.posted_scratch (s : State) (w : Word) : (s.posted w).scratch = Scratch.clear := by
  simp [State.posted]

/-! ### taken -/

@[simp] theorem State.taken_sensors (s : State) (w : Word) (n : Fin 16) (r : Request) :
    (s.taken w n r).sensors = s.sensors := by simp [State.taken]
@[simp] theorem State.taken_transport (s : State) (w : Word) (n : Fin 16) (r : Request) :
    (s.taken w n r).transport = s.transport := by simp [State.taken]
@[simp] theorem State.taken_servo (s : State) (w : Word) (n : Fin 16) (r : Request) :
    (s.taken w n r).servo = s.servo := by simp [State.taken]
@[simp] theorem State.taken_position (s : State) (w : Word) (n : Fin 16) (r : Request) :
    (s.taken w n r).position = s.position := by simp [State.taken]
@[simp] theorem State.taken_remaining (s : State) (w : Word) (n : Fin 16) (r : Request) :
    (s.taken w n r).remaining = s.remaining := by simp [State.taken]
@[simp] theorem State.taken_tuner (s : State) (w : Word) (n : Fin 16) (r : Request) :
    (s.taken w n r).tuner = s.tuner := by simp [State.taken]
@[simp] theorem State.taken_decoder (s : State) (w : Word) (n : Fin 16) (r : Request) :
    (s.taken w n r).decoder = s.decoder := by simp [State.taken]
@[simp] theorem State.taken_clock (s : State) (w : Word) (n : Fin 16) (r : Request) :
    (s.taken w n r).clock = s.clock := by simp [State.taken]
@[simp] theorem State.taken_scheduler (s : State) (w : Word) (n : Fin 16) (r : Request) :
    (s.taken w n r).scheduler = s.scheduler := by simp [State.taken]
@[simp] theorem State.taken_power (s : State) (w : Word) (n : Fin 16) (r : Request) :
    (s.taken w n r).power = s.power := by simp [State.taken]
@[simp] theorem State.taken_claims (s : State) (w : Word) (n : Fin 16) (r : Request) :
    (s.taken w n r).claims = s.claims := by simp [State.taken]
@[simp] theorem State.taken_presenter (s : State) (w : Word) (n : Fin 16) (r : Request) :
    (s.taken w n r).presenter = s.presenter := by simp [State.taken]
@[simp] theorem State.taken_lamps (s : State) (w : Word) (n : Fin 16) (r : Request) :
    (s.taken w n r).lamps = s.lamps := by simp [State.taken]
@[simp] theorem State.taken_losses (s : State) (w : Word) (n : Fin 16) (r : Request) :
    (s.taken w n r).losses = s.losses := by simp [State.taken]
@[simp] theorem State.taken_draws (s : State) (w : Word) (n : Fin 16) (r : Request) :
    (s.taken w n r).draws = s.draws := by simp [State.taken]
@[simp] theorem State.taken_timeBase (s : State) (w : Word) (n : Fin 16) (r : Request) :
    (s.taken w n r).timeBase = s.timeBase := by simp [State.taken]
@[simp] theorem State.taken_pending (s : State) (w : Word) (n : Fin 16) (r : Request) :
    (s.taken w n r).pending = s.pending := by simp [State.taken]

@[simp] theorem State.taken_scratch (s : State) (w : Word) (n : Fin 16) (r : Request) :
    (s.taken w n r).scratch = Scratch.clear := by simp [State.taken]

/-! ### clearLabel -/

@[simp] theorem State.clearLabel_sensors (s : State) : s.clearLabel.sensors = s.sensors := by rfl
@[simp] theorem State.clearLabel_transport (s : State) : s.clearLabel.transport = s.transport := by rfl
@[simp] theorem State.clearLabel_servo (s : State) : s.clearLabel.servo = s.servo := by rfl
@[simp] theorem State.clearLabel_position (s : State) : s.clearLabel.position = s.position := by rfl
@[simp] theorem State.clearLabel_remaining (s : State) : s.clearLabel.remaining = s.remaining := by rfl
@[simp] theorem State.clearLabel_tuner (s : State) : s.clearLabel.tuner = s.tuner := by rfl
@[simp] theorem State.clearLabel_clock (s : State) : s.clearLabel.clock = s.clock := by rfl
@[simp] theorem State.clearLabel_scheduler (s : State) : s.clearLabel.scheduler = s.scheduler := by rfl
@[simp] theorem State.clearLabel_power (s : State) : s.clearLabel.power = s.power := by rfl
@[simp] theorem State.clearLabel_requests (s : State) : s.clearLabel.requests = s.requests := by rfl
@[simp] theorem State.clearLabel_claims (s : State) : s.clearLabel.claims = s.claims := by rfl
@[simp] theorem State.clearLabel_port (s : State) : s.clearLabel.port = s.port := by rfl
@[simp] theorem State.clearLabel_presenter (s : State) : s.clearLabel.presenter = s.presenter := by rfl
@[simp] theorem State.clearLabel_lamps (s : State) : s.clearLabel.lamps = s.lamps := by rfl
@[simp] theorem State.clearLabel_mem (s : State) : s.clearLabel.mem = s.mem := by rfl
@[simp] theorem State.clearLabel_losses (s : State) : s.clearLabel.losses = s.losses := by rfl
@[simp] theorem State.clearLabel_draws (s : State) : s.clearLabel.draws = s.draws := by rfl
@[simp] theorem State.clearLabel_interlock (s : State) : s.clearLabel.interlock = s.interlock := by rfl
@[simp] theorem State.clearLabel_timeBase (s : State) : s.clearLabel.timeBase = s.timeBase := by rfl
@[simp] theorem State.clearLabel_pending (s : State) : s.clearLabel.pending = s.pending := by rfl

/-! ### powerTuner -/

@[simp] theorem State.powerTuner_sensors (s : State) :
    s.powerTuner.sensors = s.sensors := by unfold State.powerTuner; split <;> simp
@[simp] theorem State.powerTuner_transport (s : State) :
    s.powerTuner.transport = s.transport := by unfold State.powerTuner; split <;> simp
@[simp] theorem State.powerTuner_servo (s : State) :
    s.powerTuner.servo = s.servo := by unfold State.powerTuner; split <;> simp
@[simp] theorem State.powerTuner_position (s : State) :
    s.powerTuner.position = s.position := by unfold State.powerTuner; split <;> simp
@[simp] theorem State.powerTuner_remaining (s : State) :
    s.powerTuner.remaining = s.remaining := by unfold State.powerTuner; split <;> simp
@[simp] theorem State.powerTuner_clock (s : State) :
    s.powerTuner.clock = s.clock := by unfold State.powerTuner; split <;> simp
@[simp] theorem State.powerTuner_scheduler (s : State) :
    s.powerTuner.scheduler = s.scheduler := by unfold State.powerTuner; split <;> simp
@[simp] theorem State.powerTuner_power (s : State) :
    s.powerTuner.power = s.power := by unfold State.powerTuner; split <;> simp
@[simp] theorem State.powerTuner_requests (s : State) :
    s.powerTuner.requests = s.requests := by unfold State.powerTuner; split <;> simp
@[simp] theorem State.powerTuner_claims (s : State) :
    s.powerTuner.claims = s.claims := by unfold State.powerTuner; split <;> simp
@[simp] theorem State.powerTuner_port (s : State) :
    s.powerTuner.port = s.port := by unfold State.powerTuner; split <;> simp
@[simp] theorem State.powerTuner_presenter (s : State) :
    s.powerTuner.presenter = s.presenter := by unfold State.powerTuner; split <;> simp
@[simp] theorem State.powerTuner_lamps (s : State) :
    s.powerTuner.lamps = s.lamps := by unfold State.powerTuner; split <;> simp
@[simp] theorem State.powerTuner_mem (s : State) :
    s.powerTuner.mem = s.mem := by unfold State.powerTuner; split <;> simp
@[simp] theorem State.powerTuner_losses (s : State) :
    s.powerTuner.losses = s.losses := by unfold State.powerTuner; split <;> simp
@[simp] theorem State.powerTuner_draws (s : State) :
    s.powerTuner.draws = s.draws := by unfold State.powerTuner; split <;> simp
@[simp] theorem State.powerTuner_interlock (s : State) :
    s.powerTuner.interlock = s.interlock := by unfold State.powerTuner; split <;> simp
@[simp] theorem State.powerTuner_timeBase (s : State) :
    s.powerTuner.timeBase = s.timeBase := by unfold State.powerTuner; split <;> simp
@[simp] theorem State.powerTuner_scratch (s : State) :
    s.powerTuner.scratch = s.scratch := by unfold State.powerTuner; split <;> simp
@[simp] theorem State.powerTuner_pending (s : State) :
    s.powerTuner.pending = s.pending := by unfold State.powerTuner; split <;> simp

/-! ### tune -/

@[simp] theorem State.tune_sensors (s : State) (b : TunedBase) (st : Nat) (step : Bool) :
    (s.tune b st step).sensors = s.sensors := by simp [State.tune]
@[simp] theorem State.tune_transport (s : State) (b : TunedBase) (st : Nat) (step : Bool) :
    (s.tune b st step).transport = s.transport := by simp [State.tune]
@[simp] theorem State.tune_servo (s : State) (b : TunedBase) (st : Nat) (step : Bool) :
    (s.tune b st step).servo = s.servo := by simp [State.tune]
@[simp] theorem State.tune_position (s : State) (b : TunedBase) (st : Nat) (step : Bool) :
    (s.tune b st step).position = s.position := by simp [State.tune]
@[simp] theorem State.tune_remaining (s : State) (b : TunedBase) (st : Nat) (step : Bool) :
    (s.tune b st step).remaining = s.remaining := by simp [State.tune]
@[simp] theorem State.tune_scheduler (s : State) (b : TunedBase) (st : Nat) (step : Bool) :
    (s.tune b st step).scheduler = s.scheduler := by simp [State.tune]
@[simp] theorem State.tune_power (s : State) (b : TunedBase) (st : Nat) (step : Bool) :
    (s.tune b st step).power = s.power := by simp [State.tune]
@[simp] theorem State.tune_requests (s : State) (b : TunedBase) (st : Nat) (step : Bool) :
    (s.tune b st step).requests = s.requests := by simp [State.tune]
@[simp] theorem State.tune_claims (s : State) (b : TunedBase) (st : Nat) (step : Bool) :
    (s.tune b st step).claims = s.claims := by simp [State.tune]
@[simp] theorem State.tune_port (s : State) (b : TunedBase) (st : Nat) (step : Bool) :
    (s.tune b st step).port = s.port := by simp [State.tune]
@[simp] theorem State.tune_presenter (s : State) (b : TunedBase) (st : Nat) (step : Bool) :
    (s.tune b st step).presenter = s.presenter := by simp [State.tune]
@[simp] theorem State.tune_lamps (s : State) (b : TunedBase) (st : Nat) (step : Bool) :
    (s.tune b st step).lamps = s.lamps := by simp [State.tune]
@[simp] theorem State.tune_mem (s : State) (b : TunedBase) (st : Nat) (step : Bool) :
    (s.tune b st step).mem = s.mem := by simp [State.tune]
@[simp] theorem State.tune_losses (s : State) (b : TunedBase) (st : Nat) (step : Bool) :
    (s.tune b st step).losses = s.losses := by simp [State.tune]
@[simp] theorem State.tune_draws (s : State) (b : TunedBase) (st : Nat) (step : Bool) :
    (s.tune b st step).draws = s.draws := by simp [State.tune]
@[simp] theorem State.tune_interlock (s : State) (b : TunedBase) (st : Nat) (step : Bool) :
    (s.tune b st step).interlock = s.interlock := by simp [State.tune]
@[simp] theorem State.tune_timeBase (s : State) (b : TunedBase) (st : Nat) (step : Bool) :
    (s.tune b st step).timeBase = s.timeBase := by simp [State.tune]
@[simp] theorem State.tune_pending (s : State) (b : TunedBase) (st : Nat) (step : Bool) :
    (s.tune b st step).pending = s.pending := by simp [State.tune]

/-! ### readPreset -/

@[simp] theorem State.readPreset_sensors (s : State) (p : Nat) :
    (s.readPreset p).sensors = s.sensors := by unfold State.readPreset; (repeat' split) <;> rfl
@[simp] theorem State.readPreset_transport (s : State) (p : Nat) :
    (s.readPreset p).transport = s.transport := by unfold State.readPreset; (repeat' split) <;> rfl
@[simp] theorem State.readPreset_servo (s : State) (p : Nat) :
    (s.readPreset p).servo = s.servo := by unfold State.readPreset; (repeat' split) <;> rfl
@[simp] theorem State.readPreset_position (s : State) (p : Nat) :
    (s.readPreset p).position = s.position := by unfold State.readPreset; (repeat' split) <;> rfl
@[simp] theorem State.readPreset_remaining (s : State) (p : Nat) :
    (s.readPreset p).remaining = s.remaining := by unfold State.readPreset; (repeat' split) <;> rfl
@[simp] theorem State.readPreset_decoder (s : State) (p : Nat) :
    (s.readPreset p).decoder = s.decoder := by unfold State.readPreset; (repeat' split) <;> rfl
@[simp] theorem State.readPreset_clock (s : State) (p : Nat) :
    (s.readPreset p).clock = s.clock := by unfold State.readPreset; (repeat' split) <;> rfl
@[simp] theorem State.readPreset_scheduler (s : State) (p : Nat) :
    (s.readPreset p).scheduler = s.scheduler := by unfold State.readPreset; (repeat' split) <;> rfl
@[simp] theorem State.readPreset_power (s : State) (p : Nat) :
    (s.readPreset p).power = s.power := by unfold State.readPreset; (repeat' split) <;> rfl
@[simp] theorem State.readPreset_requests (s : State) (p : Nat) :
    (s.readPreset p).requests = s.requests := by unfold State.readPreset; (repeat' split) <;> rfl
@[simp] theorem State.readPreset_claims (s : State) (p : Nat) :
    (s.readPreset p).claims = s.claims := by unfold State.readPreset; (repeat' split) <;> rfl
@[simp] theorem State.readPreset_port (s : State) (p : Nat) :
    (s.readPreset p).port = s.port := by unfold State.readPreset; (repeat' split) <;> rfl
@[simp] theorem State.readPreset_presenter (s : State) (p : Nat) :
    (s.readPreset p).presenter = s.presenter := by unfold State.readPreset; (repeat' split) <;> rfl
@[simp] theorem State.readPreset_lamps (s : State) (p : Nat) :
    (s.readPreset p).lamps = s.lamps := by unfold State.readPreset; (repeat' split) <;> rfl
@[simp] theorem State.readPreset_mem (s : State) (p : Nat) :
    (s.readPreset p).mem = s.mem := by unfold State.readPreset; (repeat' split) <;> rfl
@[simp] theorem State.readPreset_losses (s : State) (p : Nat) :
    (s.readPreset p).losses = s.losses := by unfold State.readPreset; (repeat' split) <;> rfl
@[simp] theorem State.readPreset_draws (s : State) (p : Nat) :
    (s.readPreset p).draws = s.draws := by unfold State.readPreset; (repeat' split) <;> rfl
@[simp] theorem State.readPreset_interlock (s : State) (p : Nat) :
    (s.readPreset p).interlock = s.interlock := by unfold State.readPreset; (repeat' split) <;> rfl
@[simp] theorem State.readPreset_timeBase (s : State) (p : Nat) :
    (s.readPreset p).timeBase = s.timeBase := by unfold State.readPreset; (repeat' split) <;> rfl
@[simp] theorem State.readPreset_scratch (s : State) (p : Nat) :
    (s.readPreset p).scratch = s.scratch := by unfold State.readPreset; (repeat' split) <;> rfl
@[simp] theorem State.readPreset_pending (s : State) (p : Nat) :
    (s.readPreset p).pending = s.pending := by unfold State.readPreset; (repeat' split) <;> rfl

/-! ### untune -/

@[simp] theorem State.untune_sensors (s : State) :
    s.untune.sensors = s.sensors := rfl
@[simp] theorem State.untune_transport (s : State) :
    s.untune.transport = s.transport := rfl
@[simp] theorem State.untune_servo (s : State) :
    s.untune.servo = s.servo := rfl
@[simp] theorem State.untune_position (s : State) :
    s.untune.position = s.position := rfl
@[simp] theorem State.untune_remaining (s : State) :
    s.untune.remaining = s.remaining := rfl
@[simp] theorem State.untune_clock (s : State) :
    s.untune.clock = s.clock := rfl
@[simp] theorem State.untune_scheduler (s : State) :
    s.untune.scheduler = s.scheduler := rfl
@[simp] theorem State.untune_power (s : State) :
    s.untune.power = s.power := rfl
@[simp] theorem State.untune_requests (s : State) :
    s.untune.requests = s.requests := rfl
@[simp] theorem State.untune_claims (s : State) :
    s.untune.claims = s.claims := rfl
@[simp] theorem State.untune_port (s : State) :
    s.untune.port = s.port := rfl
@[simp] theorem State.untune_presenter (s : State) :
    s.untune.presenter = s.presenter := rfl
@[simp] theorem State.untune_lamps (s : State) :
    s.untune.lamps = s.lamps := rfl
@[simp] theorem State.untune_mem (s : State) :
    s.untune.mem = s.mem := rfl
@[simp] theorem State.untune_losses (s : State) :
    s.untune.losses = s.losses := rfl
@[simp] theorem State.untune_draws (s : State) :
    s.untune.draws = s.draws := rfl
@[simp] theorem State.untune_interlock (s : State) :
    s.untune.interlock = s.interlock := rfl
@[simp] theorem State.untune_timeBase (s : State) :
    s.untune.timeBase = s.timeBase := rfl
@[simp] theorem State.untune_scratch (s : State) :
    s.untune.scratch = s.scratch := rfl
@[simp] theorem State.untune_pending (s : State) :
    s.untune.pending = s.pending := rfl

/-! ### tunePreset -/

@[simp] theorem State.tunePreset_sensors (s : State) (p : Nat) :
    (s.tunePreset p).sensors = s.sensors := by simp [State.tunePreset]
@[simp] theorem State.tunePreset_transport (s : State) (p : Nat) :
    (s.tunePreset p).transport = s.transport := by simp [State.tunePreset]
@[simp] theorem State.tunePreset_servo (s : State) (p : Nat) :
    (s.tunePreset p).servo = s.servo := by simp [State.tunePreset]
@[simp] theorem State.tunePreset_position (s : State) (p : Nat) :
    (s.tunePreset p).position = s.position := by simp [State.tunePreset]
@[simp] theorem State.tunePreset_remaining (s : State) (p : Nat) :
    (s.tunePreset p).remaining = s.remaining := by simp [State.tunePreset]
@[simp] theorem State.tunePreset_scheduler (s : State) (p : Nat) :
    (s.tunePreset p).scheduler = s.scheduler := by simp [State.tunePreset]
@[simp] theorem State.tunePreset_power (s : State) (p : Nat) :
    (s.tunePreset p).power = s.power := by simp [State.tunePreset]
@[simp] theorem State.tunePreset_requests (s : State) (p : Nat) :
    (s.tunePreset p).requests = s.requests := by simp [State.tunePreset]
@[simp] theorem State.tunePreset_claims (s : State) (p : Nat) :
    (s.tunePreset p).claims = s.claims := by simp [State.tunePreset]
@[simp] theorem State.tunePreset_port (s : State) (p : Nat) :
    (s.tunePreset p).port = s.port := by simp [State.tunePreset]
@[simp] theorem State.tunePreset_presenter (s : State) (p : Nat) :
    (s.tunePreset p).presenter = s.presenter := by simp [State.tunePreset]
@[simp] theorem State.tunePreset_lamps (s : State) (p : Nat) :
    (s.tunePreset p).lamps = s.lamps := by simp [State.tunePreset]
@[simp] theorem State.tunePreset_mem (s : State) (p : Nat) :
    (s.tunePreset p).mem = s.mem := by simp [State.tunePreset]
@[simp] theorem State.tunePreset_losses (s : State) (p : Nat) :
    (s.tunePreset p).losses = s.losses := by simp [State.tunePreset]
@[simp] theorem State.tunePreset_draws (s : State) (p : Nat) :
    (s.tunePreset p).draws = s.draws := by simp [State.tunePreset]
@[simp] theorem State.tunePreset_interlock (s : State) (p : Nat) :
    (s.tunePreset p).interlock = s.interlock := by simp [State.tunePreset]
@[simp] theorem State.tunePreset_timeBase (s : State) (p : Nat) :
    (s.tunePreset p).timeBase = s.timeBase := by simp [State.tunePreset]
@[simp] theorem State.tunePreset_pending (s : State) (p : Nat) :
    (s.tunePreset p).pending = s.pending := by simp [State.tunePreset]

/-! ### fixSelection -/

@[simp] theorem State.fixSelection_sensors (s : State) :
    s.fixSelection.sensors = s.sensors := by unfold State.fixSelection; (try dsimp only); (repeat' split) <;> simp
@[simp] theorem State.fixSelection_transport (s : State) :
    s.fixSelection.transport = s.transport := by unfold State.fixSelection; (try dsimp only); (repeat' split) <;> simp
@[simp] theorem State.fixSelection_servo (s : State) :
    s.fixSelection.servo = s.servo := by unfold State.fixSelection; (try dsimp only); (repeat' split) <;> simp
@[simp] theorem State.fixSelection_position (s : State) :
    s.fixSelection.position = s.position := by unfold State.fixSelection; (try dsimp only); (repeat' split) <;> simp
@[simp] theorem State.fixSelection_remaining (s : State) :
    s.fixSelection.remaining = s.remaining := by unfold State.fixSelection; (try dsimp only); (repeat' split) <;> simp
@[simp] theorem State.fixSelection_decoder (s : State) :
    s.fixSelection.decoder = s.decoder := by unfold State.fixSelection; (try dsimp only); (repeat' split) <;> simp
@[simp] theorem State.fixSelection_clock (s : State) :
    s.fixSelection.clock = s.clock := by unfold State.fixSelection; (try dsimp only); (repeat' split) <;> simp
@[simp] theorem State.fixSelection_scheduler (s : State) :
    s.fixSelection.scheduler = s.scheduler := by unfold State.fixSelection; (try dsimp only); (repeat' split) <;> simp
@[simp] theorem State.fixSelection_power (s : State) :
    s.fixSelection.power = s.power := by unfold State.fixSelection; (try dsimp only); (repeat' split) <;> simp
@[simp] theorem State.fixSelection_requests (s : State) :
    s.fixSelection.requests = s.requests := by unfold State.fixSelection; (try dsimp only); (repeat' split) <;> simp
@[simp] theorem State.fixSelection_claims (s : State) :
    s.fixSelection.claims = s.claims := by unfold State.fixSelection; (try dsimp only); (repeat' split) <;> simp
@[simp] theorem State.fixSelection_port (s : State) :
    s.fixSelection.port = s.port := by unfold State.fixSelection; (try dsimp only); (repeat' split) <;> simp
@[simp] theorem State.fixSelection_presenter (s : State) :
    s.fixSelection.presenter = s.presenter := by unfold State.fixSelection; (try dsimp only); (repeat' split) <;> simp
@[simp] theorem State.fixSelection_lamps (s : State) :
    s.fixSelection.lamps = s.lamps := by unfold State.fixSelection; (try dsimp only); (repeat' split) <;> simp
@[simp] theorem State.fixSelection_mem (s : State) :
    s.fixSelection.mem = s.mem := by unfold State.fixSelection; (try dsimp only); (repeat' split) <;> simp
@[simp] theorem State.fixSelection_losses (s : State) :
    s.fixSelection.losses = s.losses := by unfold State.fixSelection; (try dsimp only); (repeat' split) <;> simp
@[simp] theorem State.fixSelection_draws (s : State) :
    s.fixSelection.draws = s.draws := by unfold State.fixSelection; (try dsimp only); (repeat' split) <;> simp
@[simp] theorem State.fixSelection_interlock (s : State) :
    s.fixSelection.interlock = s.interlock := by unfold State.fixSelection; (try dsimp only); (repeat' split) <;> simp
@[simp] theorem State.fixSelection_timeBase (s : State) :
    s.fixSelection.timeBase = s.timeBase := by unfold State.fixSelection; (try dsimp only); (repeat' split) <;> simp
@[simp] theorem State.fixSelection_scratch (s : State) :
    s.fixSelection.scratch = s.scratch := by unfold State.fixSelection; (try dsimp only); (repeat' split) <;> simp
@[simp] theorem State.fixSelection_pending (s : State) :
    s.fixSelection.pending = s.pending := by unfold State.fixSelection; (try dsimp only); (repeat' split) <;> simp

/-! ### tuneSelection -/

@[simp] theorem State.tuneSelection_sensors (s : State) :
    s.tuneSelection.sensors = s.sensors := by unfold State.tuneSelection; (try dsimp only); (repeat' split) <;> simp
@[simp] theorem State.tuneSelection_transport (s : State) :
    s.tuneSelection.transport = s.transport := by unfold State.tuneSelection; (try dsimp only); (repeat' split) <;> simp
@[simp] theorem State.tuneSelection_servo (s : State) :
    s.tuneSelection.servo = s.servo := by unfold State.tuneSelection; (try dsimp only); (repeat' split) <;> simp
@[simp] theorem State.tuneSelection_position (s : State) :
    s.tuneSelection.position = s.position := by unfold State.tuneSelection; (try dsimp only); (repeat' split) <;> simp
@[simp] theorem State.tuneSelection_remaining (s : State) :
    s.tuneSelection.remaining = s.remaining := by unfold State.tuneSelection; (try dsimp only); (repeat' split) <;> simp
@[simp] theorem State.tuneSelection_scheduler (s : State) :
    s.tuneSelection.scheduler = s.scheduler := by unfold State.tuneSelection; (try dsimp only); (repeat' split) <;> simp
@[simp] theorem State.tuneSelection_power (s : State) :
    s.tuneSelection.power = s.power := by unfold State.tuneSelection; (try dsimp only); (repeat' split) <;> simp
@[simp] theorem State.tuneSelection_requests (s : State) :
    s.tuneSelection.requests = s.requests := by unfold State.tuneSelection; (try dsimp only); (repeat' split) <;> simp
@[simp] theorem State.tuneSelection_claims (s : State) :
    s.tuneSelection.claims = s.claims := by unfold State.tuneSelection; (try dsimp only); (repeat' split) <;> simp
@[simp] theorem State.tuneSelection_port (s : State) :
    s.tuneSelection.port = s.port := by unfold State.tuneSelection; (try dsimp only); (repeat' split) <;> simp
@[simp] theorem State.tuneSelection_presenter (s : State) :
    s.tuneSelection.presenter = s.presenter := by unfold State.tuneSelection; (try dsimp only); (repeat' split) <;> simp
@[simp] theorem State.tuneSelection_lamps (s : State) :
    s.tuneSelection.lamps = s.lamps := by unfold State.tuneSelection; (try dsimp only); (repeat' split) <;> simp
@[simp] theorem State.tuneSelection_mem (s : State) :
    s.tuneSelection.mem = s.mem := by unfold State.tuneSelection; (try dsimp only); (repeat' split) <;> simp
@[simp] theorem State.tuneSelection_losses (s : State) :
    s.tuneSelection.losses = s.losses := by unfold State.tuneSelection; (try dsimp only); (repeat' split) <;> simp
@[simp] theorem State.tuneSelection_draws (s : State) :
    s.tuneSelection.draws = s.draws := by unfold State.tuneSelection; (try dsimp only); (repeat' split) <;> simp
@[simp] theorem State.tuneSelection_interlock (s : State) :
    s.tuneSelection.interlock = s.interlock := by unfold State.tuneSelection; (try dsimp only); (repeat' split) <;> simp
@[simp] theorem State.tuneSelection_timeBase (s : State) :
    s.tuneSelection.timeBase = s.timeBase := by unfold State.tuneSelection; (try dsimp only); (repeat' split) <;> simp
@[simp] theorem State.tuneSelection_pending (s : State) :
    s.tuneSelection.pending = s.pending := by unfold State.tuneSelection; (try dsimp only); (repeat' split) <;> simp

/-! ### finishTuning -/

@[simp] theorem State.finishTuning_sensors (s : State) (o : ReqOutcome) (y : Reason) :
    (s.finishTuning o y).sensors = s.sensors := by unfold State.finishTuning; split <;> simp
@[simp] theorem State.finishTuning_transport (s : State) (o : ReqOutcome) (y : Reason) :
    (s.finishTuning o y).transport = s.transport := by unfold State.finishTuning; split <;> simp
@[simp] theorem State.finishTuning_servo (s : State) (o : ReqOutcome) (y : Reason) :
    (s.finishTuning o y).servo = s.servo := by unfold State.finishTuning; split <;> simp
@[simp] theorem State.finishTuning_position (s : State) (o : ReqOutcome) (y : Reason) :
    (s.finishTuning o y).position = s.position := by unfold State.finishTuning; split <;> simp
@[simp] theorem State.finishTuning_remaining (s : State) (o : ReqOutcome) (y : Reason) :
    (s.finishTuning o y).remaining = s.remaining := by unfold State.finishTuning; split <;> simp
@[simp] theorem State.finishTuning_tuner (s : State) (o : ReqOutcome) (y : Reason) :
    (s.finishTuning o y).tuner = s.tuner := by unfold State.finishTuning; split <;> simp
@[simp] theorem State.finishTuning_decoder (s : State) (o : ReqOutcome) (y : Reason) :
    (s.finishTuning o y).decoder = s.decoder := by unfold State.finishTuning; split <;> simp
@[simp] theorem State.finishTuning_clock (s : State) (o : ReqOutcome) (y : Reason) :
    (s.finishTuning o y).clock = s.clock := by unfold State.finishTuning; split <;> simp
@[simp] theorem State.finishTuning_scheduler (s : State) (o : ReqOutcome) (y : Reason) :
    (s.finishTuning o y).scheduler = s.scheduler := by unfold State.finishTuning; split <;> simp
@[simp] theorem State.finishTuning_power (s : State) (o : ReqOutcome) (y : Reason) :
    (s.finishTuning o y).power = s.power := by unfold State.finishTuning; split <;> simp
@[simp] theorem State.finishTuning_claims (s : State) (o : ReqOutcome) (y : Reason) :
    (s.finishTuning o y).claims = s.claims := by unfold State.finishTuning; split <;> simp
@[simp] theorem State.finishTuning_port (s : State) (o : ReqOutcome) (y : Reason) :
    (s.finishTuning o y).port = s.port := by unfold State.finishTuning; split <;> simp
@[simp] theorem State.finishTuning_lamps (s : State) (o : ReqOutcome) (y : Reason) :
    (s.finishTuning o y).lamps = s.lamps := by unfold State.finishTuning; split <;> simp
@[simp] theorem State.finishTuning_mem (s : State) (o : ReqOutcome) (y : Reason) :
    (s.finishTuning o y).mem = s.mem := by unfold State.finishTuning; split <;> simp
@[simp] theorem State.finishTuning_losses (s : State) (o : ReqOutcome) (y : Reason) :
    (s.finishTuning o y).losses = s.losses := by unfold State.finishTuning; split <;> simp
@[simp] theorem State.finishTuning_draws (s : State) (o : ReqOutcome) (y : Reason) :
    (s.finishTuning o y).draws = s.draws := by unfold State.finishTuning; split <;> simp
@[simp] theorem State.finishTuning_interlock (s : State) (o : ReqOutcome) (y : Reason) :
    (s.finishTuning o y).interlock = s.interlock := by unfold State.finishTuning; split <;> simp
@[simp] theorem State.finishTuning_timeBase (s : State) (o : ReqOutcome) (y : Reason) :
    (s.finishTuning o y).timeBase = s.timeBase := by unfold State.finishTuning; split <;> simp
@[simp] theorem State.finishTuning_pending (s : State) (o : ReqOutcome) (y : Reason) :
    (s.finishTuning o y).pending = s.pending := by unfold State.finishTuning; split <;> simp

/-! ### unpowerTuner -/

@[simp] theorem State.unpowerTuner_sensors (s : State) :
    s.unpowerTuner.sensors = s.sensors := by simp [State.unpowerTuner]
@[simp] theorem State.unpowerTuner_transport (s : State) :
    s.unpowerTuner.transport = s.transport := by simp [State.unpowerTuner]
@[simp] theorem State.unpowerTuner_servo (s : State) :
    s.unpowerTuner.servo = s.servo := by simp [State.unpowerTuner]
@[simp] theorem State.unpowerTuner_position (s : State) :
    s.unpowerTuner.position = s.position := by simp [State.unpowerTuner]
@[simp] theorem State.unpowerTuner_remaining (s : State) :
    s.unpowerTuner.remaining = s.remaining := by simp [State.unpowerTuner]
@[simp] theorem State.unpowerTuner_scheduler (s : State) :
    s.unpowerTuner.scheduler = s.scheduler := by simp [State.unpowerTuner]
@[simp] theorem State.unpowerTuner_power (s : State) :
    s.unpowerTuner.power = s.power := by simp [State.unpowerTuner]
@[simp] theorem State.unpowerTuner_claims (s : State) :
    s.unpowerTuner.claims = s.claims := by simp [State.unpowerTuner]
@[simp] theorem State.unpowerTuner_port (s : State) :
    s.unpowerTuner.port = s.port := by simp [State.unpowerTuner]
@[simp] theorem State.unpowerTuner_lamps (s : State) :
    s.unpowerTuner.lamps = s.lamps := by simp [State.unpowerTuner]
@[simp] theorem State.unpowerTuner_mem (s : State) : s.unpowerTuner.mem = s.mem := by simp [State.unpowerTuner]
@[simp] theorem State.unpowerTuner_losses (s : State) :
    s.unpowerTuner.losses = s.losses := by simp [State.unpowerTuner]
@[simp] theorem State.unpowerTuner_draws (s : State) :
    s.unpowerTuner.draws = s.draws := by simp [State.unpowerTuner]
@[simp] theorem State.unpowerTuner_interlock (s : State) :
    s.unpowerTuner.interlock = s.interlock := by simp [State.unpowerTuner]
@[simp] theorem State.unpowerTuner_timeBase (s : State) :
    s.unpowerTuner.timeBase = s.timeBase := by simp [State.unpowerTuner]
@[simp] theorem State.unpowerTuner_pending (s : State) :
    s.unpowerTuner.pending = s.pending := by simp [State.unpowerTuner]

/-! ### syncTunerPower -/

@[simp] theorem State.syncTunerPower_sensors (s : State) :
    s.syncTunerPower.sensors = s.sensors := by unfold State.syncTunerPower; (repeat' split) <;> simp
@[simp] theorem State.syncTunerPower_transport (s : State) :
    s.syncTunerPower.transport = s.transport := by unfold State.syncTunerPower; (repeat' split) <;> simp
@[simp] theorem State.syncTunerPower_servo (s : State) :
    s.syncTunerPower.servo = s.servo := by unfold State.syncTunerPower; (repeat' split) <;> simp
@[simp] theorem State.syncTunerPower_position (s : State) :
    s.syncTunerPower.position = s.position := by unfold State.syncTunerPower; (repeat' split) <;> simp
@[simp] theorem State.syncTunerPower_remaining (s : State) :
    s.syncTunerPower.remaining = s.remaining := by unfold State.syncTunerPower; (repeat' split) <;> simp
@[simp] theorem State.syncTunerPower_scheduler (s : State) :
    s.syncTunerPower.scheduler = s.scheduler := by unfold State.syncTunerPower; (repeat' split) <;> simp
@[simp] theorem State.syncTunerPower_power (s : State) :
    s.syncTunerPower.power = s.power := by unfold State.syncTunerPower; (repeat' split) <;> simp
@[simp] theorem State.syncTunerPower_claims (s : State) :
    s.syncTunerPower.claims = s.claims := by unfold State.syncTunerPower; (repeat' split) <;> simp
@[simp] theorem State.syncTunerPower_port (s : State) :
    s.syncTunerPower.port = s.port := by unfold State.syncTunerPower; (repeat' split) <;> simp
@[simp] theorem State.syncTunerPower_lamps (s : State) :
    s.syncTunerPower.lamps = s.lamps := by unfold State.syncTunerPower; (repeat' split) <;> simp
@[simp] theorem State.syncTunerPower_mem (s : State) :
    s.syncTunerPower.mem = s.mem := by unfold State.syncTunerPower; (repeat' split) <;> simp
@[simp] theorem State.syncTunerPower_losses (s : State) :
    s.syncTunerPower.losses = s.losses := by unfold State.syncTunerPower; (repeat' split) <;> simp
@[simp] theorem State.syncTunerPower_draws (s : State) :
    s.syncTunerPower.draws = s.draws := by unfold State.syncTunerPower; (repeat' split) <;> simp
@[simp] theorem State.syncTunerPower_interlock (s : State) :
    s.syncTunerPower.interlock = s.interlock := by unfold State.syncTunerPower; (repeat' split) <;> simp
@[simp] theorem State.syncTunerPower_timeBase (s : State) :
    s.syncTunerPower.timeBase = s.timeBase := by unfold State.syncTunerPower; (repeat' split) <;> simp
@[simp] theorem State.syncTunerPower_pending (s : State) :
    s.syncTunerPower.pending = s.pending := by unfold State.syncTunerPower; (repeat' split) <;> simp

/-! ### endSeek -/

@[simp] theorem State.endSeek_sensors (s : State) :
    s.endSeek.sensors = s.sensors := by unfold State.endSeek; split <;> simp
@[simp] theorem State.endSeek_transport (s : State) :
    s.endSeek.transport = s.transport := by unfold State.endSeek; split <;> simp
@[simp] theorem State.endSeek_servo (s : State) :
    s.endSeek.servo = s.servo := by unfold State.endSeek; split <;> simp
@[simp] theorem State.endSeek_position (s : State) :
    s.endSeek.position = s.position := by unfold State.endSeek; split <;> simp
@[simp] theorem State.endSeek_remaining (s : State) :
    s.endSeek.remaining = s.remaining := by unfold State.endSeek; split <;> simp
@[simp] theorem State.endSeek_decoder (s : State) :
    s.endSeek.decoder = s.decoder := by unfold State.endSeek; split <;> simp
@[simp] theorem State.endSeek_scheduler (s : State) :
    s.endSeek.scheduler = s.scheduler := by unfold State.endSeek; split <;> simp
@[simp] theorem State.endSeek_power (s : State) :
    s.endSeek.power = s.power := by unfold State.endSeek; split <;> simp
@[simp] theorem State.endSeek_requests (s : State) :
    s.endSeek.requests = s.requests := by unfold State.endSeek; split <;> simp
@[simp] theorem State.endSeek_claims (s : State) :
    s.endSeek.claims = s.claims := by unfold State.endSeek; split <;> simp
@[simp] theorem State.endSeek_port (s : State) :
    s.endSeek.port = s.port := by unfold State.endSeek; split <;> simp
@[simp] theorem State.endSeek_presenter (s : State) :
    s.endSeek.presenter = s.presenter := by unfold State.endSeek; split <;> simp
@[simp] theorem State.endSeek_lamps (s : State) :
    s.endSeek.lamps = s.lamps := by unfold State.endSeek; split <;> simp
@[simp] theorem State.endSeek_mem (s : State) : s.endSeek.mem = s.mem := by unfold State.endSeek; split <;> simp
@[simp] theorem State.endSeek_losses (s : State) :
    s.endSeek.losses = s.losses := by unfold State.endSeek; split <;> simp
@[simp] theorem State.endSeek_draws (s : State) :
    s.endSeek.draws = s.draws := by unfold State.endSeek; split <;> simp
@[simp] theorem State.endSeek_interlock (s : State) :
    s.endSeek.interlock = s.interlock := by unfold State.endSeek; split <;> simp
@[simp] theorem State.endSeek_timeBase (s : State) :
    s.endSeek.timeBase = s.timeBase := by unfold State.endSeek; split <;> simp
@[simp] theorem State.endSeek_scratch (s : State) :
    s.endSeek.scratch = s.scratch := by unfold State.endSeek; split <;> simp
@[simp] theorem State.endSeek_pending (s : State) :
    s.endSeek.pending = s.pending := by unfold State.endSeek; split <;> simp

/-! ### releaseSeek -/

@[simp] theorem State.releaseSeek_sensors (s : State) :
    s.releaseSeek.sensors = s.sensors := by simp [State.releaseSeek]
@[simp] theorem State.releaseSeek_transport (s : State) :
    s.releaseSeek.transport = s.transport := by simp [State.releaseSeek]
@[simp] theorem State.releaseSeek_servo (s : State) :
    s.releaseSeek.servo = s.servo := by simp [State.releaseSeek]
@[simp] theorem State.releaseSeek_position (s : State) :
    s.releaseSeek.position = s.position := by simp [State.releaseSeek]
@[simp] theorem State.releaseSeek_remaining (s : State) :
    s.releaseSeek.remaining = s.remaining := by simp [State.releaseSeek]
@[simp] theorem State.releaseSeek_scheduler (s : State) :
    s.releaseSeek.scheduler = s.scheduler := by simp [State.releaseSeek]
@[simp] theorem State.releaseSeek_power (s : State) :
    s.releaseSeek.power = s.power := by simp [State.releaseSeek]
@[simp] theorem State.releaseSeek_claims (s : State) :
    s.releaseSeek.claims = s.claims := by simp [State.releaseSeek]
@[simp] theorem State.releaseSeek_port (s : State) : s.releaseSeek.port = s.port := by simp [State.releaseSeek]
@[simp] theorem State.releaseSeek_lamps (s : State) :
    s.releaseSeek.lamps = s.lamps := by simp [State.releaseSeek]
@[simp] theorem State.releaseSeek_mem (s : State) : s.releaseSeek.mem = s.mem := by simp [State.releaseSeek]
@[simp] theorem State.releaseSeek_losses (s : State) :
    s.releaseSeek.losses = s.losses := by simp [State.releaseSeek]
@[simp] theorem State.releaseSeek_draws (s : State) :
    s.releaseSeek.draws = s.draws := by simp [State.releaseSeek]
@[simp] theorem State.releaseSeek_interlock (s : State) :
    s.releaseSeek.interlock = s.interlock := by simp [State.releaseSeek]
@[simp] theorem State.releaseSeek_timeBase (s : State) :
    s.releaseSeek.timeBase = s.timeBase := by simp [State.releaseSeek]
@[simp] theorem State.releaseSeek_pending (s : State) :
    s.releaseSeek.pending = s.pending := by simp [State.releaseSeek]

/-! ### releaseRecord -/

@[simp] theorem State.releaseRecord_sensors (s : State) :
    s.releaseRecord.sensors = s.sensors := by unfold State.releaseRecord; (try dsimp only); (repeat' split) <;> simp
@[simp] theorem State.releaseRecord_transport (s : State) :
    s.releaseRecord.transport = s.transport := by unfold State.releaseRecord; (try dsimp only); (repeat' split) <;> simp
@[simp] theorem State.releaseRecord_servo (s : State) :
    s.releaseRecord.servo = s.servo := by unfold State.releaseRecord; (try dsimp only); (repeat' split) <;> simp
@[simp] theorem State.releaseRecord_position (s : State) :
    s.releaseRecord.position = s.position := by unfold State.releaseRecord; (try dsimp only); (repeat' split) <;> simp
@[simp] theorem State.releaseRecord_remaining (s : State) :
    s.releaseRecord.remaining = s.remaining := by unfold State.releaseRecord; (try dsimp only); (repeat' split) <;> simp
@[simp] theorem State.releaseRecord_scheduler (s : State) :
    s.releaseRecord.scheduler = s.scheduler := by unfold State.releaseRecord; (try dsimp only); (repeat' split) <;> simp
@[simp] theorem State.releaseRecord_power (s : State) :
    s.releaseRecord.power = s.power := by unfold State.releaseRecord; (try dsimp only); (repeat' split) <;> simp
@[simp] theorem State.releaseRecord_claims (s : State) :
    s.releaseRecord.claims = s.claims := by unfold State.releaseRecord; (try dsimp only); (repeat' split) <;> simp
@[simp] theorem State.releaseRecord_port (s : State) :
    s.releaseRecord.port = s.port := by unfold State.releaseRecord; (try dsimp only); (repeat' split) <;> simp
@[simp] theorem State.releaseRecord_lamps (s : State) :
    s.releaseRecord.lamps = s.lamps := by unfold State.releaseRecord; (try dsimp only); (repeat' split) <;> simp
@[simp] theorem State.releaseRecord_mem (s : State) :
    s.releaseRecord.mem = s.mem := by unfold State.releaseRecord; (try dsimp only); (repeat' split) <;> simp
@[simp] theorem State.releaseRecord_losses (s : State) :
    s.releaseRecord.losses = s.losses := by unfold State.releaseRecord; (try dsimp only); (repeat' split) <;> simp
@[simp] theorem State.releaseRecord_draws (s : State) :
    s.releaseRecord.draws = s.draws := by unfold State.releaseRecord; (try dsimp only); (repeat' split) <;> simp
@[simp] theorem State.releaseRecord_interlock (s : State) :
    s.releaseRecord.interlock = s.interlock := by unfold State.releaseRecord; (try dsimp only); (repeat' split) <;> simp
@[simp] theorem State.releaseRecord_timeBase (s : State) :
    s.releaseRecord.timeBase = s.timeBase := by unfold State.releaseRecord; (try dsimp only); (repeat' split) <;> simp
@[simp] theorem State.releaseRecord_pending (s : State) :
    s.releaseRecord.pending = s.pending := by unfold State.releaseRecord; (try dsimp only); (repeat' split) <;> simp

/-! ### dropScan -/

@[simp] theorem State.dropScan_sensors (s : State) (o : ReqOutcome) (y : Reason) (full : Bool) :
    (s.dropScan o y full).sensors = s.sensors := by unfold State.dropScan; split <;> simp
@[simp] theorem State.dropScan_transport (s : State) (o : ReqOutcome) (y : Reason) (full : Bool) :
    (s.dropScan o y full).transport = s.transport := by unfold State.dropScan; split <;> simp
@[simp] theorem State.dropScan_servo (s : State) (o : ReqOutcome) (y : Reason) (full : Bool) :
    (s.dropScan o y full).servo = s.servo := by unfold State.dropScan; split <;> simp
@[simp] theorem State.dropScan_position (s : State) (o : ReqOutcome) (y : Reason) (full : Bool) :
    (s.dropScan o y full).position = s.position := by unfold State.dropScan; split <;> simp
@[simp] theorem State.dropScan_remaining (s : State) (o : ReqOutcome) (y : Reason) (full : Bool) :
    (s.dropScan o y full).remaining = s.remaining := by unfold State.dropScan; split <;> simp
@[simp] theorem State.dropScan_decoder (s : State) (o : ReqOutcome) (y : Reason) (full : Bool) :
    (s.dropScan o y full).decoder = s.decoder := by unfold State.dropScan; split <;> simp
@[simp] theorem State.dropScan_clock (s : State) (o : ReqOutcome) (y : Reason) (full : Bool) :
    (s.dropScan o y full).clock = s.clock := by unfold State.dropScan; split <;> simp
@[simp] theorem State.dropScan_scheduler (s : State) (o : ReqOutcome) (y : Reason) (full : Bool) :
    (s.dropScan o y full).scheduler = s.scheduler := by unfold State.dropScan; split <;> simp
@[simp] theorem State.dropScan_power (s : State) (o : ReqOutcome) (y : Reason) (full : Bool) :
    (s.dropScan o y full).power = s.power := by unfold State.dropScan; split <;> simp
@[simp] theorem State.dropScan_port (s : State) (o : ReqOutcome) (y : Reason) (full : Bool) :
    (s.dropScan o y full).port = s.port := by unfold State.dropScan; split <;> simp
@[simp] theorem State.dropScan_lamps (s : State) (o : ReqOutcome) (y : Reason) (full : Bool) :
    (s.dropScan o y full).lamps = s.lamps := by unfold State.dropScan; split <;> simp
@[simp] theorem State.dropScan_mem (s : State) (o : ReqOutcome) (y : Reason) (full : Bool) :
    (s.dropScan o y full).mem = s.mem := by unfold State.dropScan; split <;> simp
@[simp] theorem State.dropScan_losses (s : State) (o : ReqOutcome) (y : Reason) (full : Bool) :
    (s.dropScan o y full).losses = s.losses := by unfold State.dropScan; split <;> simp
@[simp] theorem State.dropScan_draws (s : State) (o : ReqOutcome) (y : Reason) (full : Bool) :
    (s.dropScan o y full).draws = s.draws := by unfold State.dropScan; split <;> simp
@[simp] theorem State.dropScan_interlock (s : State) (o : ReqOutcome) (y : Reason) (full : Bool) :
    (s.dropScan o y full).interlock = s.interlock := by unfold State.dropScan; split <;> simp
@[simp] theorem State.dropScan_timeBase (s : State) (o : ReqOutcome) (y : Reason) (full : Bool) :
    (s.dropScan o y full).timeBase = s.timeBase := by unfold State.dropScan; split <;> simp
@[simp] theorem State.dropScan_pending (s : State) (o : ReqOutcome) (y : Reason) (full : Bool) :
    (s.dropScan o y full).pending = s.pending := by unfold State.dropScan; split <;> simp

/-! ### cutScan -/

@[simp] theorem State.cutScan_sensors (s : State) :
    s.cutScan.sensors = s.sensors := by unfold State.cutScan; split <;> simp
@[simp] theorem State.cutScan_transport (s : State) :
    s.cutScan.transport = s.transport := by unfold State.cutScan; split <;> simp
@[simp] theorem State.cutScan_servo (s : State) :
    s.cutScan.servo = s.servo := by unfold State.cutScan; split <;> simp
@[simp] theorem State.cutScan_position (s : State) :
    s.cutScan.position = s.position := by unfold State.cutScan; split <;> simp
@[simp] theorem State.cutScan_remaining (s : State) :
    s.cutScan.remaining = s.remaining := by unfold State.cutScan; split <;> simp
@[simp] theorem State.cutScan_decoder (s : State) :
    s.cutScan.decoder = s.decoder := by unfold State.cutScan; split <;> simp
@[simp] theorem State.cutScan_clock (s : State) :
    s.cutScan.clock = s.clock := by unfold State.cutScan; split <;> simp
@[simp] theorem State.cutScan_scheduler (s : State) :
    s.cutScan.scheduler = s.scheduler := by unfold State.cutScan; split <;> simp
@[simp] theorem State.cutScan_power (s : State) :
    s.cutScan.power = s.power := by unfold State.cutScan; split <;> simp
@[simp] theorem State.cutScan_port (s : State) :
    s.cutScan.port = s.port := by unfold State.cutScan; split <;> simp
@[simp] theorem State.cutScan_lamps (s : State) :
    s.cutScan.lamps = s.lamps := by unfold State.cutScan; split <;> simp
@[simp] theorem State.cutScan_mem (s : State) :
    s.cutScan.mem = s.mem := by unfold State.cutScan; split <;> simp
@[simp] theorem State.cutScan_losses (s : State) :
    s.cutScan.losses = s.losses := by unfold State.cutScan; split <;> simp
@[simp] theorem State.cutScan_draws (s : State) :
    s.cutScan.draws = s.draws := by unfold State.cutScan; split <;> simp
@[simp] theorem State.cutScan_interlock (s : State) :
    s.cutScan.interlock = s.interlock := by unfold State.cutScan; split <;> simp
@[simp] theorem State.cutScan_timeBase (s : State) :
    s.cutScan.timeBase = s.timeBase := by unfold State.cutScan; split <;> simp
@[simp] theorem State.cutScan_pending (s : State) :
    s.cutScan.pending = s.pending := by unfold State.cutScan; split <;> simp

/-! ### takeTuner -/

@[simp] theorem State.takeTuner_sensors (s : State) (n : Fin 16) :
    (s.takeTuner n).sensors = s.sensors := by unfold State.takeTuner; simp
@[simp] theorem State.takeTuner_transport (s : State) (n : Fin 16) :
    (s.takeTuner n).transport = s.transport := by unfold State.takeTuner; simp
@[simp] theorem State.takeTuner_servo (s : State) (n : Fin 16) :
    (s.takeTuner n).servo = s.servo := by unfold State.takeTuner; simp
@[simp] theorem State.takeTuner_position (s : State) (n : Fin 16) :
    (s.takeTuner n).position = s.position := by unfold State.takeTuner; simp
@[simp] theorem State.takeTuner_remaining (s : State) (n : Fin 16) :
    (s.takeTuner n).remaining = s.remaining := by unfold State.takeTuner; simp
@[simp] theorem State.takeTuner_decoder (s : State) (n : Fin 16) :
    (s.takeTuner n).decoder = s.decoder := by unfold State.takeTuner; simp
@[simp] theorem State.takeTuner_clock (s : State) (n : Fin 16) :
    (s.takeTuner n).clock = s.clock := by unfold State.takeTuner; simp
@[simp] theorem State.takeTuner_scheduler (s : State) (n : Fin 16) :
    (s.takeTuner n).scheduler = s.scheduler := by unfold State.takeTuner; simp
@[simp] theorem State.takeTuner_power (s : State) (n : Fin 16) :
    (s.takeTuner n).power = s.power := by unfold State.takeTuner; simp
@[simp] theorem State.takeTuner_port (s : State) (n : Fin 16) :
    (s.takeTuner n).port = s.port := by unfold State.takeTuner; simp
@[simp] theorem State.takeTuner_lamps (s : State) (n : Fin 16) :
    (s.takeTuner n).lamps = s.lamps := by unfold State.takeTuner; simp
@[simp] theorem State.takeTuner_mem (s : State) (n : Fin 16) :
    (s.takeTuner n).mem = s.mem := by unfold State.takeTuner; simp
@[simp] theorem State.takeTuner_losses (s : State) (n : Fin 16) :
    (s.takeTuner n).losses = s.losses := by unfold State.takeTuner; simp
@[simp] theorem State.takeTuner_draws (s : State) (n : Fin 16) :
    (s.takeTuner n).draws = s.draws := by unfold State.takeTuner; simp
@[simp] theorem State.takeTuner_interlock (s : State) (n : Fin 16) :
    (s.takeTuner n).interlock = s.interlock := by unfold State.takeTuner; simp
@[simp] theorem State.takeTuner_timeBase (s : State) (n : Fin 16) :
    (s.takeTuner n).timeBase = s.timeBase := by unfold State.takeTuner; simp
@[simp] theorem State.takeTuner_pending (s : State) (n : Fin 16) :
    (s.takeTuner n).pending = s.pending := by unfold State.takeTuner; simp

/-! ### takeViewing -/

@[simp] theorem State.takeViewing_sensors (s : State) (n : Fin 16) :
    (s.takeViewing n).sensors = s.sensors := by unfold State.takeViewing; simp
@[simp] theorem State.takeViewing_transport (s : State) (n : Fin 16) :
    (s.takeViewing n).transport = s.transport := by unfold State.takeViewing; simp
@[simp] theorem State.takeViewing_servo (s : State) (n : Fin 16) :
    (s.takeViewing n).servo = s.servo := by unfold State.takeViewing; simp
@[simp] theorem State.takeViewing_position (s : State) (n : Fin 16) :
    (s.takeViewing n).position = s.position := by unfold State.takeViewing; simp
@[simp] theorem State.takeViewing_remaining (s : State) (n : Fin 16) :
    (s.takeViewing n).remaining = s.remaining := by unfold State.takeViewing; simp
@[simp] theorem State.takeViewing_scheduler (s : State) (n : Fin 16) :
    (s.takeViewing n).scheduler = s.scheduler := by unfold State.takeViewing; simp
@[simp] theorem State.takeViewing_power (s : State) (n : Fin 16) :
    (s.takeViewing n).power = s.power := by unfold State.takeViewing; simp
@[simp] theorem State.takeViewing_port (s : State) (n : Fin 16) :
    (s.takeViewing n).port = s.port := by unfold State.takeViewing; simp
@[simp] theorem State.takeViewing_lamps (s : State) (n : Fin 16) :
    (s.takeViewing n).lamps = s.lamps := by unfold State.takeViewing; simp
@[simp] theorem State.takeViewing_mem (s : State) (n : Fin 16) :
    (s.takeViewing n).mem = s.mem := by unfold State.takeViewing; simp
@[simp] theorem State.takeViewing_losses (s : State) (n : Fin 16) :
    (s.takeViewing n).losses = s.losses := by unfold State.takeViewing; simp
@[simp] theorem State.takeViewing_draws (s : State) (n : Fin 16) :
    (s.takeViewing n).draws = s.draws := by unfold State.takeViewing; simp
@[simp] theorem State.takeViewing_interlock (s : State) (n : Fin 16) :
    (s.takeViewing n).interlock = s.interlock := by unfold State.takeViewing; simp
@[simp] theorem State.takeViewing_timeBase (s : State) (n : Fin 16) :
    (s.takeViewing n).timeBase = s.timeBase := by unfold State.takeViewing; simp
@[simp] theorem State.takeViewing_pending (s : State) (n : Fin 16) :
    (s.takeViewing n).pending = s.pending := by unfold State.takeViewing; simp

/-! ### becomeActive -/

@[simp] theorem State.becomeActive_sensors (s : State) :
    s.becomeActive.sensors = s.sensors := by simp [State.becomeActive]
@[simp] theorem State.becomeActive_transport (s : State) :
    s.becomeActive.transport = s.transport := by simp [State.becomeActive]
@[simp] theorem State.becomeActive_servo (s : State) :
    s.becomeActive.servo = s.servo := by simp [State.becomeActive]
@[simp] theorem State.becomeActive_position (s : State) :
    s.becomeActive.position = s.position := by simp [State.becomeActive]
@[simp] theorem State.becomeActive_remaining (s : State) :
    s.becomeActive.remaining = s.remaining := by simp [State.becomeActive]
@[simp] theorem State.becomeActive_scheduler (s : State) :
    s.becomeActive.scheduler = s.scheduler := by simp [State.becomeActive]
@[simp] theorem State.becomeActive_requests (s : State) :
    s.becomeActive.requests = s.requests := by simp [State.becomeActive]
@[simp] theorem State.becomeActive_claims (s : State) :
    s.becomeActive.claims = s.claims := by simp [State.becomeActive]
@[simp] theorem State.becomeActive_port (s : State) :
    s.becomeActive.port = s.port := by simp [State.becomeActive]
@[simp] theorem State.becomeActive_presenter (s : State) :
    s.becomeActive.presenter = s.presenter := by simp [State.becomeActive]
@[simp] theorem State.becomeActive_lamps (s : State) :
    s.becomeActive.lamps = s.lamps := by simp [State.becomeActive]
@[simp] theorem State.becomeActive_mem (s : State) : s.becomeActive.mem = s.mem := by simp [State.becomeActive]
@[simp] theorem State.becomeActive_losses (s : State) :
    s.becomeActive.losses = s.losses := by simp [State.becomeActive]
@[simp] theorem State.becomeActive_draws (s : State) :
    s.becomeActive.draws = s.draws := by simp [State.becomeActive]
@[simp] theorem State.becomeActive_interlock (s : State) :
    s.becomeActive.interlock = s.interlock := by simp [State.becomeActive]
@[simp] theorem State.becomeActive_timeBase (s : State) :
    s.becomeActive.timeBase = s.timeBase := by simp [State.becomeActive]
@[simp] theorem State.becomeActive_scratch (s : State) :
    s.becomeActive.scratch = s.scratch := by simp [State.becomeActive]
@[simp] theorem State.becomeActive_pending (s : State) :
    s.becomeActive.pending = s.pending := by simp [State.becomeActive]

/-! ### becomeQuiet -/

@[simp] theorem State.becomeQuiet_sensors (s : State) :
    s.becomeQuiet.sensors = s.sensors := by unfold State.becomeQuiet; (try dsimp only); (repeat' split) <;> simp
@[simp] theorem State.becomeQuiet_transport (s : State) :
    s.becomeQuiet.transport = s.transport := by unfold State.becomeQuiet; (try dsimp only); (repeat' split) <;> simp
@[simp] theorem State.becomeQuiet_servo (s : State) :
    s.becomeQuiet.servo = s.servo := by unfold State.becomeQuiet; (try dsimp only); (repeat' split) <;> simp
@[simp] theorem State.becomeQuiet_position (s : State) :
    s.becomeQuiet.position = s.position := by unfold State.becomeQuiet; (try dsimp only); (repeat' split) <;> simp
@[simp] theorem State.becomeQuiet_remaining (s : State) :
    s.becomeQuiet.remaining = s.remaining := by unfold State.becomeQuiet; (try dsimp only); (repeat' split) <;> simp
@[simp] theorem State.becomeQuiet_scheduler (s : State) :
    s.becomeQuiet.scheduler = s.scheduler := by unfold State.becomeQuiet; (try dsimp only); (repeat' split) <;> simp
@[simp] theorem State.becomeQuiet_claims (s : State) :
    s.becomeQuiet.claims = s.claims := by unfold State.becomeQuiet; (try dsimp only); (repeat' split) <;> simp
@[simp] theorem State.becomeQuiet_port (s : State) :
    s.becomeQuiet.port = s.port := by unfold State.becomeQuiet; (try dsimp only); (repeat' split) <;> simp
@[simp] theorem State.becomeQuiet_lamps (s : State) :
    s.becomeQuiet.lamps = s.lamps := by unfold State.becomeQuiet; (try dsimp only); (repeat' split) <;> simp
@[simp] theorem State.becomeQuiet_mem (s : State) :
    s.becomeQuiet.mem = s.mem := by unfold State.becomeQuiet; (try dsimp only); (repeat' split) <;> simp
@[simp] theorem State.becomeQuiet_losses (s : State) :
    s.becomeQuiet.losses = s.losses := by unfold State.becomeQuiet; (try dsimp only); (repeat' split) <;> simp
@[simp] theorem State.becomeQuiet_draws (s : State) :
    s.becomeQuiet.draws = s.draws := by unfold State.becomeQuiet; (try dsimp only); (repeat' split) <;> simp
@[simp] theorem State.becomeQuiet_interlock (s : State) :
    s.becomeQuiet.interlock = s.interlock := by unfold State.becomeQuiet; (try dsimp only); (repeat' split) <;> simp
@[simp] theorem State.becomeQuiet_timeBase (s : State) :
    s.becomeQuiet.timeBase = s.timeBase := by unfold State.becomeQuiet; (try dsimp only); (repeat' split) <;> simp
@[simp] theorem State.becomeQuiet_pending (s : State) :
    s.becomeQuiet.pending = s.pending := by unfold State.becomeQuiet; (try dsimp only); (repeat' split) <;> simp

/-! ### syncPower -/

@[simp] theorem State.syncPower_sensors (s : State) :
    s.syncPower.sensors = s.sensors := by unfold State.syncPower; (repeat' split) <;> simp
@[simp] theorem State.syncPower_transport (s : State) :
    s.syncPower.transport = s.transport := by unfold State.syncPower; (repeat' split) <;> simp
@[simp] theorem State.syncPower_servo (s : State) :
    s.syncPower.servo = s.servo := by unfold State.syncPower; (repeat' split) <;> simp
@[simp] theorem State.syncPower_position (s : State) :
    s.syncPower.position = s.position := by unfold State.syncPower; (repeat' split) <;> simp
@[simp] theorem State.syncPower_remaining (s : State) :
    s.syncPower.remaining = s.remaining := by unfold State.syncPower; (repeat' split) <;> simp
@[simp] theorem State.syncPower_scheduler (s : State) :
    s.syncPower.scheduler = s.scheduler := by unfold State.syncPower; (repeat' split) <;> simp
@[simp] theorem State.syncPower_claims (s : State) :
    s.syncPower.claims = s.claims := by unfold State.syncPower; (repeat' split) <;> simp
@[simp] theorem State.syncPower_port (s : State) :
    s.syncPower.port = s.port := by unfold State.syncPower; (repeat' split) <;> simp
@[simp] theorem State.syncPower_lamps (s : State) :
    s.syncPower.lamps = s.lamps := by unfold State.syncPower; (repeat' split) <;> simp
@[simp] theorem State.syncPower_mem (s : State) :
    s.syncPower.mem = s.mem := by unfold State.syncPower; (repeat' split) <;> simp
@[simp] theorem State.syncPower_losses (s : State) :
    s.syncPower.losses = s.losses := by unfold State.syncPower; (repeat' split) <;> simp
@[simp] theorem State.syncPower_draws (s : State) :
    s.syncPower.draws = s.draws := by unfold State.syncPower; (repeat' split) <;> simp
@[simp] theorem State.syncPower_interlock (s : State) :
    s.syncPower.interlock = s.interlock := by unfold State.syncPower; (repeat' split) <;> simp
@[simp] theorem State.syncPower_timeBase (s : State) :
    s.syncPower.timeBase = s.timeBase := by unfold State.syncPower; (repeat' split) <;> simp
@[simp] theorem State.syncPower_pending (s : State) :
    s.syncPower.pending = s.pending := by unfold State.syncPower; (repeat' split) <;> simp

/-! ### syncNeeds -/

@[simp] theorem State.syncNeeds_sensors (s : State) :
    s.syncNeeds.sensors = s.sensors := by simp [State.syncNeeds]
@[simp] theorem State.syncNeeds_transport (s : State) :
    s.syncNeeds.transport = s.transport := by simp [State.syncNeeds]
@[simp] theorem State.syncNeeds_servo (s : State) : s.syncNeeds.servo = s.servo := by simp [State.syncNeeds]
@[simp] theorem State.syncNeeds_position (s : State) :
    s.syncNeeds.position = s.position := by simp [State.syncNeeds]
@[simp] theorem State.syncNeeds_remaining (s : State) :
    s.syncNeeds.remaining = s.remaining := by simp [State.syncNeeds]
@[simp] theorem State.syncNeeds_scheduler (s : State) :
    s.syncNeeds.scheduler = s.scheduler := by simp [State.syncNeeds]
@[simp] theorem State.syncNeeds_claims (s : State) : s.syncNeeds.claims = s.claims := by simp [State.syncNeeds]
@[simp] theorem State.syncNeeds_port (s : State) : s.syncNeeds.port = s.port := by simp [State.syncNeeds]
@[simp] theorem State.syncNeeds_lamps (s : State) : s.syncNeeds.lamps = s.lamps := by simp [State.syncNeeds]
@[simp] theorem State.syncNeeds_mem (s : State) : s.syncNeeds.mem = s.mem := by simp [State.syncNeeds]
@[simp] theorem State.syncNeeds_losses (s : State) : s.syncNeeds.losses = s.losses := by simp [State.syncNeeds]
@[simp] theorem State.syncNeeds_draws (s : State) : s.syncNeeds.draws = s.draws := by simp [State.syncNeeds]
@[simp] theorem State.syncNeeds_interlock (s : State) :
    s.syncNeeds.interlock = s.interlock := by simp [State.syncNeeds]
@[simp] theorem State.syncNeeds_timeBase (s : State) :
    s.syncNeeds.timeBase = s.timeBase := by simp [State.syncNeeds]
@[simp] theorem State.syncNeeds_pending (s : State) :
    s.syncNeeds.pending = s.pending := by simp [State.syncNeeds]

/-! ### syncIdle -/

@[simp] theorem State.syncIdle_sensors (old s : State) :
    (State.syncIdle old s).sensors = s.sensors := by unfold State.syncIdle; (try dsimp only); (repeat' split) <;> simp
@[simp] theorem State.syncIdle_servo (old s : State) :
    (State.syncIdle old s).servo = s.servo := by unfold State.syncIdle; (try dsimp only); (repeat' split) <;> simp
@[simp] theorem State.syncIdle_position (old s : State) :
    (State.syncIdle old s).position = s.position := by unfold State.syncIdle; (try dsimp only); (repeat' split) <;> simp
@[simp] theorem State.syncIdle_remaining (old s : State) :
    (State.syncIdle old s).remaining = s.remaining := by unfold State.syncIdle; (try dsimp only); (repeat' split) <;> simp
@[simp] theorem State.syncIdle_tuner (old s : State) :
    (State.syncIdle old s).tuner = s.tuner := by unfold State.syncIdle; (try dsimp only); (repeat' split) <;> simp
@[simp] theorem State.syncIdle_decoder (old s : State) :
    (State.syncIdle old s).decoder = s.decoder := by unfold State.syncIdle; (try dsimp only); (repeat' split) <;> simp
@[simp] theorem State.syncIdle_clock (old s : State) :
    (State.syncIdle old s).clock = s.clock := by unfold State.syncIdle; (try dsimp only); (repeat' split) <;> simp
@[simp] theorem State.syncIdle_scheduler (old s : State) :
    (State.syncIdle old s).scheduler = s.scheduler := by unfold State.syncIdle; (try dsimp only); (repeat' split) <;> simp
@[simp] theorem State.syncIdle_power (old s : State) :
    (State.syncIdle old s).power = s.power := by unfold State.syncIdle; (try dsimp only); (repeat' split) <;> simp
@[simp] theorem State.syncIdle_requests (old s : State) :
    (State.syncIdle old s).requests = s.requests := by unfold State.syncIdle; (try dsimp only); (repeat' split) <;> simp
@[simp] theorem State.syncIdle_claims (old s : State) :
    (State.syncIdle old s).claims = s.claims := by unfold State.syncIdle; (try dsimp only); (repeat' split) <;> simp
@[simp] theorem State.syncIdle_port (old s : State) :
    (State.syncIdle old s).port = s.port := by unfold State.syncIdle; (try dsimp only); (repeat' split) <;> simp
@[simp] theorem State.syncIdle_presenter (old s : State) :
    (State.syncIdle old s).presenter = s.presenter := by unfold State.syncIdle; (try dsimp only); (repeat' split) <;> simp
@[simp] theorem State.syncIdle_lamps (old s : State) :
    (State.syncIdle old s).lamps = s.lamps := by unfold State.syncIdle; (try dsimp only); (repeat' split) <;> simp
@[simp] theorem State.syncIdle_mem (old s : State) :
    (State.syncIdle old s).mem = s.mem := by unfold State.syncIdle; (try dsimp only); (repeat' split) <;> simp
@[simp] theorem State.syncIdle_losses (old s : State) :
    (State.syncIdle old s).losses = s.losses := by unfold State.syncIdle; (try dsimp only); (repeat' split) <;> simp
@[simp] theorem State.syncIdle_draws (old s : State) :
    (State.syncIdle old s).draws = s.draws := by unfold State.syncIdle; (try dsimp only); (repeat' split) <;> simp
@[simp] theorem State.syncIdle_interlock (old s : State) :
    (State.syncIdle old s).interlock = s.interlock := by unfold State.syncIdle; (try dsimp only); (repeat' split) <;> simp
@[simp] theorem State.syncIdle_timeBase (old s : State) :
    (State.syncIdle old s).timeBase = s.timeBase := by unfold State.syncIdle; (try dsimp only); (repeat' split) <;> simp
@[simp] theorem State.syncIdle_scratch (old s : State) :
    (State.syncIdle old s).scratch = s.scratch := by unfold State.syncIdle; (try dsimp only); (repeat' split) <;> simp
@[simp] theorem State.syncIdle_pending (old s : State) :
    (State.syncIdle old s).pending = s.pending := by unfold State.syncIdle; (try dsimp only); (repeat' split) <;> simp

/-! ### syncServo -/

@[simp] theorem State.syncServo_sensors (s : State) : s.syncServo.sensors = s.sensors := by rfl
@[simp] theorem State.syncServo_transport (s : State) : s.syncServo.transport = s.transport := by rfl
@[simp] theorem State.syncServo_position (s : State) : s.syncServo.position = s.position := by rfl
@[simp] theorem State.syncServo_remaining (s : State) : s.syncServo.remaining = s.remaining := by rfl
@[simp] theorem State.syncServo_tuner (s : State) : s.syncServo.tuner = s.tuner := by rfl
@[simp] theorem State.syncServo_decoder (s : State) : s.syncServo.decoder = s.decoder := by rfl
@[simp] theorem State.syncServo_clock (s : State) : s.syncServo.clock = s.clock := by rfl
@[simp] theorem State.syncServo_scheduler (s : State) : s.syncServo.scheduler = s.scheduler := by rfl
@[simp] theorem State.syncServo_power (s : State) : s.syncServo.power = s.power := by rfl
@[simp] theorem State.syncServo_requests (s : State) : s.syncServo.requests = s.requests := by rfl
@[simp] theorem State.syncServo_claims (s : State) : s.syncServo.claims = s.claims := by rfl
@[simp] theorem State.syncServo_port (s : State) : s.syncServo.port = s.port := by rfl
@[simp] theorem State.syncServo_presenter (s : State) : s.syncServo.presenter = s.presenter := by rfl
@[simp] theorem State.syncServo_lamps (s : State) : s.syncServo.lamps = s.lamps := by rfl
@[simp] theorem State.syncServo_mem (s : State) : s.syncServo.mem = s.mem := by rfl
@[simp] theorem State.syncServo_losses (s : State) : s.syncServo.losses = s.losses := by rfl
@[simp] theorem State.syncServo_draws (s : State) : s.syncServo.draws = s.draws := by rfl
@[simp] theorem State.syncServo_interlock (s : State) : s.syncServo.interlock = s.interlock := by rfl
@[simp] theorem State.syncServo_timeBase (s : State) : s.syncServo.timeBase = s.timeBase := by rfl
@[simp] theorem State.syncServo_scratch (s : State) : s.syncServo.scratch = s.scratch := by rfl
@[simp] theorem State.syncServo_pending (s : State) : s.syncServo.pending = s.pending := by rfl

/-! ### report -/

@[simp] theorem State.report_sensors (s : State) (f : Fin 16 → Note) :
    (s.report f).sensors = s.sensors := by unfold State.report; split <;> simp
@[simp] theorem State.report_transport (s : State) (f : Fin 16 → Note) :
    (s.report f).transport = s.transport := by unfold State.report; split <;> simp
@[simp] theorem State.report_servo (s : State) (f : Fin 16 → Note) :
    (s.report f).servo = s.servo := by unfold State.report; split <;> simp
@[simp] theorem State.report_position (s : State) (f : Fin 16 → Note) :
    (s.report f).position = s.position := by unfold State.report; split <;> simp
@[simp] theorem State.report_remaining (s : State) (f : Fin 16 → Note) :
    (s.report f).remaining = s.remaining := by unfold State.report; split <;> simp
@[simp] theorem State.report_tuner (s : State) (f : Fin 16 → Note) :
    (s.report f).tuner = s.tuner := by unfold State.report; split <;> simp
@[simp] theorem State.report_decoder (s : State) (f : Fin 16 → Note) :
    (s.report f).decoder = s.decoder := by unfold State.report; split <;> simp
@[simp] theorem State.report_clock (s : State) (f : Fin 16 → Note) :
    (s.report f).clock = s.clock := by unfold State.report; split <;> simp
@[simp] theorem State.report_scheduler (s : State) (f : Fin 16 → Note) :
    (s.report f).scheduler = s.scheduler := by unfold State.report; split <;> simp
@[simp] theorem State.report_power (s : State) (f : Fin 16 → Note) :
    (s.report f).power = s.power := by unfold State.report; split <;> simp
@[simp] theorem State.report_requests (s : State) (f : Fin 16 → Note) :
    (s.report f).requests = s.requests := by unfold State.report; split <;> simp
@[simp] theorem State.report_claims (s : State) (f : Fin 16 → Note) :
    (s.report f).claims = s.claims := by unfold State.report; split <;> simp
@[simp] theorem State.report_port (s : State) (f : Fin 16 → Note) :
    (s.report f).port = s.port := by unfold State.report; split <;> simp
@[simp] theorem State.report_presenter (s : State) (f : Fin 16 → Note) :
    (s.report f).presenter = s.presenter := by unfold State.report; split <;> simp
@[simp] theorem State.report_lamps (s : State) (f : Fin 16 → Note) :
    (s.report f).lamps = s.lamps := by unfold State.report; split <;> simp
@[simp] theorem State.report_mem (s : State) (f : Fin 16 → Note) :
    (s.report f).mem = s.mem := by unfold State.report; split <;> simp
@[simp] theorem State.report_losses (s : State) (f : Fin 16 → Note) :
    (s.report f).losses = s.losses := by unfold State.report; split <;> simp
@[simp] theorem State.report_draws (s : State) (f : Fin 16 → Note) :
    (s.report f).draws = s.draws := by unfold State.report; split <;> simp
@[simp] theorem State.report_interlock (s : State) (f : Fin 16 → Note) :
    (s.report f).interlock = s.interlock := by unfold State.report; split <;> simp
@[simp] theorem State.report_timeBase (s : State) (f : Fin 16 → Note) :
    (s.report f).timeBase = s.timeBase := by unfold State.report; split <;> simp
@[simp] theorem State.report_pending (s : State) (f : Fin 16 → Note) :
    (s.report f).pending = s.pending := by unfold State.report; split <;> simp

/-! ### poke -/

@[simp] theorem State.poke_sensors (s : State) : s.poke.sensors = s.sensors := by rfl
@[simp] theorem State.poke_transport (s : State) : s.poke.transport = s.transport := by rfl
@[simp] theorem State.poke_servo (s : State) : s.poke.servo = s.servo := by rfl
@[simp] theorem State.poke_position (s : State) : s.poke.position = s.position := by rfl
@[simp] theorem State.poke_remaining (s : State) : s.poke.remaining = s.remaining := by rfl
@[simp] theorem State.poke_tuner (s : State) : s.poke.tuner = s.tuner := by rfl
@[simp] theorem State.poke_decoder (s : State) : s.poke.decoder = s.decoder := by rfl
@[simp] theorem State.poke_clock (s : State) : s.poke.clock = s.clock := by rfl
@[simp] theorem State.poke_scheduler (s : State) : s.poke.scheduler = s.scheduler := by rfl
@[simp] theorem State.poke_power (s : State) : s.poke.power = s.power := by rfl
@[simp] theorem State.poke_requests (s : State) : s.poke.requests = s.requests := by rfl
@[simp] theorem State.poke_claims (s : State) : s.poke.claims = s.claims := by rfl
@[simp] theorem State.poke_port (s : State) : s.poke.port = s.port := by rfl
@[simp] theorem State.poke_presenter (s : State) : s.poke.presenter = s.presenter := by rfl
@[simp] theorem State.poke_lamps (s : State) : s.poke.lamps = s.lamps := by rfl
@[simp] theorem State.poke_mem (s : State) : s.poke.mem = s.mem := by rfl
@[simp] theorem State.poke_losses (s : State) : s.poke.losses = s.losses := by rfl
@[simp] theorem State.poke_draws (s : State) : s.poke.draws = s.draws := by rfl
@[simp] theorem State.poke_interlock (s : State) : s.poke.interlock = s.interlock := by rfl
@[simp] theorem State.poke_timeBase (s : State) : s.poke.timeBase = s.timeBase := by rfl
@[simp] theorem State.poke_pending (s : State) : s.poke.pending = s.pending := by rfl

/-! ### touchMap -/

@[simp] theorem State.touchMap_sensors (s : State) : s.touchMap.sensors = s.sensors := by rfl
@[simp] theorem State.touchMap_transport (s : State) : s.touchMap.transport = s.transport := by rfl
@[simp] theorem State.touchMap_servo (s : State) : s.touchMap.servo = s.servo := by rfl
@[simp] theorem State.touchMap_position (s : State) : s.touchMap.position = s.position := by rfl
@[simp] theorem State.touchMap_remaining (s : State) : s.touchMap.remaining = s.remaining := by rfl
@[simp] theorem State.touchMap_tuner (s : State) : s.touchMap.tuner = s.tuner := by rfl
@[simp] theorem State.touchMap_decoder (s : State) : s.touchMap.decoder = s.decoder := by rfl
@[simp] theorem State.touchMap_clock (s : State) : s.touchMap.clock = s.clock := by rfl
@[simp] theorem State.touchMap_scheduler (s : State) : s.touchMap.scheduler = s.scheduler := by rfl
@[simp] theorem State.touchMap_power (s : State) : s.touchMap.power = s.power := by rfl
@[simp] theorem State.touchMap_requests (s : State) : s.touchMap.requests = s.requests := by rfl
@[simp] theorem State.touchMap_claims (s : State) : s.touchMap.claims = s.claims := by rfl
@[simp] theorem State.touchMap_port (s : State) : s.touchMap.port = s.port := by rfl
@[simp] theorem State.touchMap_presenter (s : State) : s.touchMap.presenter = s.presenter := by rfl
@[simp] theorem State.touchMap_lamps (s : State) : s.touchMap.lamps = s.lamps := by rfl
@[simp] theorem State.touchMap_mem (s : State) : s.touchMap.mem = s.mem := by rfl
@[simp] theorem State.touchMap_losses (s : State) : s.touchMap.losses = s.losses := by rfl
@[simp] theorem State.touchMap_draws (s : State) : s.touchMap.draws = s.draws := by rfl
@[simp] theorem State.touchMap_interlock (s : State) : s.touchMap.interlock = s.interlock := by rfl
@[simp] theorem State.touchMap_timeBase (s : State) : s.touchMap.timeBase = s.timeBase := by rfl
@[simp] theorem State.touchMap_pending (s : State) : s.touchMap.pending = s.pending := by rfl

/-! ### haltCapstan -/

@[simp] theorem State.haltCapstan_sensors (s : State) :
    s.haltCapstan.sensors = s.sensors := by unfold State.haltCapstan; split <;> simp
@[simp] theorem State.haltCapstan_position (s : State) :
    s.haltCapstan.position = s.position := by unfold State.haltCapstan; split <;> simp
@[simp] theorem State.haltCapstan_tuner (s : State) :
    s.haltCapstan.tuner = s.tuner := by unfold State.haltCapstan; split <;> simp
@[simp] theorem State.haltCapstan_decoder (s : State) :
    s.haltCapstan.decoder = s.decoder := by unfold State.haltCapstan; split <;> simp
@[simp] theorem State.haltCapstan_clock (s : State) :
    s.haltCapstan.clock = s.clock := by unfold State.haltCapstan; split <;> simp
@[simp] theorem State.haltCapstan_scheduler (s : State) :
    s.haltCapstan.scheduler = s.scheduler := by unfold State.haltCapstan; split <;> simp
@[simp] theorem State.haltCapstan_power (s : State) :
    s.haltCapstan.power = s.power := by unfold State.haltCapstan; split <;> simp
@[simp] theorem State.haltCapstan_requests (s : State) :
    s.haltCapstan.requests = s.requests := by unfold State.haltCapstan; split <;> simp
@[simp] theorem State.haltCapstan_claims (s : State) :
    s.haltCapstan.claims = s.claims := by unfold State.haltCapstan; split <;> simp
@[simp] theorem State.haltCapstan_port (s : State) :
    s.haltCapstan.port = s.port := by unfold State.haltCapstan; split <;> simp
@[simp] theorem State.haltCapstan_presenter (s : State) :
    s.haltCapstan.presenter = s.presenter := by unfold State.haltCapstan; split <;> simp
@[simp] theorem State.haltCapstan_lamps (s : State) :
    s.haltCapstan.lamps = s.lamps := by unfold State.haltCapstan; split <;> simp
@[simp] theorem State.haltCapstan_mem (s : State) :
    s.haltCapstan.mem = s.mem := by unfold State.haltCapstan; split <;> simp
@[simp] theorem State.haltCapstan_losses (s : State) :
    s.haltCapstan.losses = s.losses := by unfold State.haltCapstan; split <;> simp
@[simp] theorem State.haltCapstan_draws (s : State) :
    s.haltCapstan.draws = s.draws := by unfold State.haltCapstan; split <;> simp
@[simp] theorem State.haltCapstan_interlock (s : State) :
    s.haltCapstan.interlock = s.interlock := by unfold State.haltCapstan; split <;> simp
@[simp] theorem State.haltCapstan_timeBase (s : State) :
    s.haltCapstan.timeBase = s.timeBase := by unfold State.haltCapstan; split <;> simp
@[simp] theorem State.haltCapstan_scratch (s : State) :
    s.haltCapstan.scratch = s.scratch := by unfold State.haltCapstan; split <;> simp
@[simp] theorem State.haltCapstan_pending (s : State) :
    s.haltCapstan.pending = s.pending := by unfold State.haltCapstan; split <;> simp

/-! ### haltReels -/

@[simp] theorem State.haltReels_sensors (s : State) :
    s.haltReels.sensors = s.sensors := by unfold State.haltReels; split <;> simp
@[simp] theorem State.haltReels_position (s : State) :
    s.haltReels.position = s.position := by unfold State.haltReels; split <;> simp
@[simp] theorem State.haltReels_tuner (s : State) :
    s.haltReels.tuner = s.tuner := by unfold State.haltReels; split <;> simp
@[simp] theorem State.haltReels_decoder (s : State) :
    s.haltReels.decoder = s.decoder := by unfold State.haltReels; split <;> simp
@[simp] theorem State.haltReels_clock (s : State) :
    s.haltReels.clock = s.clock := by unfold State.haltReels; split <;> simp
@[simp] theorem State.haltReels_scheduler (s : State) :
    s.haltReels.scheduler = s.scheduler := by unfold State.haltReels; split <;> simp
@[simp] theorem State.haltReels_power (s : State) :
    s.haltReels.power = s.power := by unfold State.haltReels; split <;> simp
@[simp] theorem State.haltReels_requests (s : State) :
    s.haltReels.requests = s.requests := by unfold State.haltReels; split <;> simp
@[simp] theorem State.haltReels_claims (s : State) :
    s.haltReels.claims = s.claims := by unfold State.haltReels; split <;> simp
@[simp] theorem State.haltReels_port (s : State) :
    s.haltReels.port = s.port := by unfold State.haltReels; split <;> simp
@[simp] theorem State.haltReels_presenter (s : State) :
    s.haltReels.presenter = s.presenter := by unfold State.haltReels; split <;> simp
@[simp] theorem State.haltReels_lamps (s : State) :
    s.haltReels.lamps = s.lamps := by unfold State.haltReels; split <;> simp
@[simp] theorem State.haltReels_mem (s : State) :
    s.haltReels.mem = s.mem := by unfold State.haltReels; split <;> simp
@[simp] theorem State.haltReels_losses (s : State) :
    s.haltReels.losses = s.losses := by unfold State.haltReels; split <;> simp
@[simp] theorem State.haltReels_draws (s : State) :
    s.haltReels.draws = s.draws := by unfold State.haltReels; split <;> simp
@[simp] theorem State.haltReels_interlock (s : State) :
    s.haltReels.interlock = s.interlock := by unfold State.haltReels; split <;> simp
@[simp] theorem State.haltReels_timeBase (s : State) :
    s.haltReels.timeBase = s.timeBase := by unfold State.haltReels; split <;> simp
@[simp] theorem State.haltReels_scratch (s : State) :
    s.haltReels.scratch = s.scratch := by unfold State.haltReels; split <;> simp
@[simp] theorem State.haltReels_pending (s : State) :
    s.haltReels.pending = s.pending := by unfold State.haltReels; split <;> simp

/-! ### haltMotion -/

@[simp] theorem State.haltMotion_sensors (s : State) :
    s.haltMotion.sensors = s.sensors := by simp [State.haltMotion]
@[simp] theorem State.haltMotion_position (s : State) :
    s.haltMotion.position = s.position := by simp [State.haltMotion]
@[simp] theorem State.haltMotion_tuner (s : State) : s.haltMotion.tuner = s.tuner := by simp [State.haltMotion]
@[simp] theorem State.haltMotion_decoder (s : State) :
    s.haltMotion.decoder = s.decoder := by simp [State.haltMotion]
@[simp] theorem State.haltMotion_clock (s : State) : s.haltMotion.clock = s.clock := by simp [State.haltMotion]
@[simp] theorem State.haltMotion_scheduler (s : State) :
    s.haltMotion.scheduler = s.scheduler := by simp [State.haltMotion]
@[simp] theorem State.haltMotion_power (s : State) : s.haltMotion.power = s.power := by simp [State.haltMotion]
@[simp] theorem State.haltMotion_requests (s : State) :
    s.haltMotion.requests = s.requests := by simp [State.haltMotion]
@[simp] theorem State.haltMotion_claims (s : State) :
    s.haltMotion.claims = s.claims := by simp [State.haltMotion]
@[simp] theorem State.haltMotion_port (s : State) : s.haltMotion.port = s.port := by simp [State.haltMotion]
@[simp] theorem State.haltMotion_presenter (s : State) :
    s.haltMotion.presenter = s.presenter := by simp [State.haltMotion]
@[simp] theorem State.haltMotion_lamps (s : State) : s.haltMotion.lamps = s.lamps := by simp [State.haltMotion]
@[simp] theorem State.haltMotion_mem (s : State) : s.haltMotion.mem = s.mem := by simp [State.haltMotion]
@[simp] theorem State.haltMotion_losses (s : State) :
    s.haltMotion.losses = s.losses := by simp [State.haltMotion]
@[simp] theorem State.haltMotion_draws (s : State) :
    s.haltMotion.draws = s.draws := by simp [State.haltMotion]
@[simp] theorem State.haltMotion_interlock (s : State) :
    s.haltMotion.interlock = s.interlock := by simp [State.haltMotion]
@[simp] theorem State.haltMotion_timeBase (s : State) :
    s.haltMotion.timeBase = s.timeBase := by simp [State.haltMotion]
@[simp] theorem State.haltMotion_scratch (s : State) :
    s.haltMotion.scratch = s.scratch := by simp [State.haltMotion]
@[simp] theorem State.haltMotion_pending (s : State) :
    s.haltMotion.pending = s.pending := by simp [State.haltMotion]

/-! ### startCapstan -/

@[simp] theorem State.startCapstan_sensors (s : State) (t : CapTarget) :
    (s.startCapstan t).sensors = s.sensors := by unfold State.startCapstan; split <;> simp
@[simp] theorem State.startCapstan_position (s : State) (t : CapTarget) :
    (s.startCapstan t).position = s.position := by unfold State.startCapstan; split <;> simp
@[simp] theorem State.startCapstan_tuner (s : State) (t : CapTarget) :
    (s.startCapstan t).tuner = s.tuner := by unfold State.startCapstan; split <;> simp
@[simp] theorem State.startCapstan_decoder (s : State) (t : CapTarget) :
    (s.startCapstan t).decoder = s.decoder := by unfold State.startCapstan; split <;> simp
@[simp] theorem State.startCapstan_clock (s : State) (t : CapTarget) :
    (s.startCapstan t).clock = s.clock := by unfold State.startCapstan; split <;> simp
@[simp] theorem State.startCapstan_scheduler (s : State) (t : CapTarget) :
    (s.startCapstan t).scheduler = s.scheduler := by unfold State.startCapstan; split <;> simp
@[simp] theorem State.startCapstan_power (s : State) (t : CapTarget) :
    (s.startCapstan t).power = s.power := by unfold State.startCapstan; split <;> simp
@[simp] theorem State.startCapstan_requests (s : State) (t : CapTarget) :
    (s.startCapstan t).requests = s.requests := by unfold State.startCapstan; split <;> simp
@[simp] theorem State.startCapstan_claims (s : State) (t : CapTarget) :
    (s.startCapstan t).claims = s.claims := by unfold State.startCapstan; split <;> simp
@[simp] theorem State.startCapstan_port (s : State) (t : CapTarget) :
    (s.startCapstan t).port = s.port := by unfold State.startCapstan; split <;> simp
@[simp] theorem State.startCapstan_presenter (s : State) (t : CapTarget) :
    (s.startCapstan t).presenter = s.presenter := by unfold State.startCapstan; split <;> simp
@[simp] theorem State.startCapstan_lamps (s : State) (t : CapTarget) :
    (s.startCapstan t).lamps = s.lamps := by unfold State.startCapstan; split <;> simp
@[simp] theorem State.startCapstan_mem (s : State) (t : CapTarget) :
    (s.startCapstan t).mem = s.mem := by unfold State.startCapstan; split <;> simp
@[simp] theorem State.startCapstan_losses (s : State) (t : CapTarget) :
    (s.startCapstan t).losses = s.losses := by unfold State.startCapstan; split <;> simp
@[simp] theorem State.startCapstan_draws (s : State) (t : CapTarget) :
    (s.startCapstan t).draws = s.draws := by unfold State.startCapstan; split <;> simp
@[simp] theorem State.startCapstan_interlock (s : State) (t : CapTarget) :
    (s.startCapstan t).interlock = s.interlock := by unfold State.startCapstan; split <;> simp
@[simp] theorem State.startCapstan_timeBase (s : State) (t : CapTarget) :
    (s.startCapstan t).timeBase = s.timeBase := by unfold State.startCapstan; split <;> simp
@[simp] theorem State.startCapstan_scratch (s : State) (t : CapTarget) :
    (s.startCapstan t).scratch = s.scratch := by unfold State.startCapstan; split <;> simp
@[simp] theorem State.startCapstan_pending (s : State) (t : CapTarget) :
    (s.startCapstan t).pending = s.pending := by unfold State.startCapstan; split <;> simp

/-! ### driveReels -/

@[simp] theorem State.driveReels_sensors (s : State) (d : Dir) :
    (s.driveReels d).sensors = s.sensors := by unfold State.driveReels; (try dsimp only); (repeat' split) <;> simp
@[simp] theorem State.driveReels_position (s : State) (d : Dir) :
    (s.driveReels d).position = s.position := by unfold State.driveReels; (try dsimp only); (repeat' split) <;> simp
@[simp] theorem State.driveReels_remaining (s : State) (d : Dir) :
    (s.driveReels d).remaining = s.remaining := by unfold State.driveReels; (try dsimp only); (repeat' split) <;> simp
@[simp] theorem State.driveReels_tuner (s : State) (d : Dir) :
    (s.driveReels d).tuner = s.tuner := by unfold State.driveReels; (try dsimp only); (repeat' split) <;> simp
@[simp] theorem State.driveReels_decoder (s : State) (d : Dir) :
    (s.driveReels d).decoder = s.decoder := by unfold State.driveReels; (try dsimp only); (repeat' split) <;> simp
@[simp] theorem State.driveReels_clock (s : State) (d : Dir) :
    (s.driveReels d).clock = s.clock := by unfold State.driveReels; (try dsimp only); (repeat' split) <;> simp
@[simp] theorem State.driveReels_scheduler (s : State) (d : Dir) :
    (s.driveReels d).scheduler = s.scheduler := by unfold State.driveReels; (try dsimp only); (repeat' split) <;> simp
@[simp] theorem State.driveReels_power (s : State) (d : Dir) :
    (s.driveReels d).power = s.power := by unfold State.driveReels; (try dsimp only); (repeat' split) <;> simp
@[simp] theorem State.driveReels_requests (s : State) (d : Dir) :
    (s.driveReels d).requests = s.requests := by unfold State.driveReels; (try dsimp only); (repeat' split) <;> simp
@[simp] theorem State.driveReels_claims (s : State) (d : Dir) :
    (s.driveReels d).claims = s.claims := by unfold State.driveReels; (try dsimp only); (repeat' split) <;> simp
@[simp] theorem State.driveReels_port (s : State) (d : Dir) :
    (s.driveReels d).port = s.port := by unfold State.driveReels; (try dsimp only); (repeat' split) <;> simp
@[simp] theorem State.driveReels_presenter (s : State) (d : Dir) :
    (s.driveReels d).presenter = s.presenter := by unfold State.driveReels; (try dsimp only); (repeat' split) <;> simp
@[simp] theorem State.driveReels_lamps (s : State) (d : Dir) :
    (s.driveReels d).lamps = s.lamps := by unfold State.driveReels; (try dsimp only); (repeat' split) <;> simp
@[simp] theorem State.driveReels_mem (s : State) (d : Dir) :
    (s.driveReels d).mem = s.mem := by unfold State.driveReels; (try dsimp only); (repeat' split) <;> simp
@[simp] theorem State.driveReels_losses (s : State) (d : Dir) :
    (s.driveReels d).losses = s.losses := by unfold State.driveReels; (try dsimp only); (repeat' split) <;> simp
@[simp] theorem State.driveReels_draws (s : State) (d : Dir) :
    (s.driveReels d).draws = s.draws := by unfold State.driveReels; (try dsimp only); (repeat' split) <;> simp
@[simp] theorem State.driveReels_interlock (s : State) (d : Dir) :
    (s.driveReels d).interlock = s.interlock := by unfold State.driveReels; (try dsimp only); (repeat' split) <;> simp
@[simp] theorem State.driveReels_timeBase (s : State) (d : Dir) :
    (s.driveReels d).timeBase = s.timeBase := by unfold State.driveReels; (try dsimp only); (repeat' split) <;> simp
@[simp] theorem State.driveReels_scratch (s : State) (d : Dir) :
    (s.driveReels d).scratch = s.scratch := by unfold State.driveReels; (try dsimp only); (repeat' split) <;> simp
@[simp] theorem State.driveReels_pending (s : State) (d : Dir) :
    (s.driveReels d).pending = s.pending := by unfold State.driveReels; (try dsimp only); (repeat' split) <;> simp

/-! ### stopDrum -/

@[simp] theorem State.stopDrum_sensors (s : State) :
    s.stopDrum.sensors = s.sensors := by unfold State.stopDrum; split <;> simp
@[simp] theorem State.stopDrum_transport (s : State) :
    s.stopDrum.transport = s.transport := by unfold State.stopDrum; split <;> simp
@[simp] theorem State.stopDrum_position (s : State) :
    s.stopDrum.position = s.position := by unfold State.stopDrum; split <;> simp
@[simp] theorem State.stopDrum_remaining (s : State) :
    s.stopDrum.remaining = s.remaining := by unfold State.stopDrum; split <;> simp
@[simp] theorem State.stopDrum_tuner (s : State) :
    s.stopDrum.tuner = s.tuner := by unfold State.stopDrum; split <;> simp
@[simp] theorem State.stopDrum_decoder (s : State) :
    s.stopDrum.decoder = s.decoder := by unfold State.stopDrum; split <;> simp
@[simp] theorem State.stopDrum_clock (s : State) :
    s.stopDrum.clock = s.clock := by unfold State.stopDrum; split <;> simp
@[simp] theorem State.stopDrum_scheduler (s : State) :
    s.stopDrum.scheduler = s.scheduler := by unfold State.stopDrum; split <;> simp
@[simp] theorem State.stopDrum_power (s : State) :
    s.stopDrum.power = s.power := by unfold State.stopDrum; split <;> simp
@[simp] theorem State.stopDrum_requests (s : State) :
    s.stopDrum.requests = s.requests := by unfold State.stopDrum; split <;> simp
@[simp] theorem State.stopDrum_claims (s : State) :
    s.stopDrum.claims = s.claims := by unfold State.stopDrum; split <;> simp
@[simp] theorem State.stopDrum_port (s : State) :
    s.stopDrum.port = s.port := by unfold State.stopDrum; split <;> simp
@[simp] theorem State.stopDrum_presenter (s : State) :
    s.stopDrum.presenter = s.presenter := by unfold State.stopDrum; split <;> simp
@[simp] theorem State.stopDrum_lamps (s : State) :
    s.stopDrum.lamps = s.lamps := by unfold State.stopDrum; split <;> simp
@[simp] theorem State.stopDrum_mem (s : State) :
    s.stopDrum.mem = s.mem := by unfold State.stopDrum; split <;> simp
@[simp] theorem State.stopDrum_losses (s : State) :
    s.stopDrum.losses = s.losses := by unfold State.stopDrum; split <;> simp
@[simp] theorem State.stopDrum_draws (s : State) :
    s.stopDrum.draws = s.draws := by unfold State.stopDrum; split <;> simp
@[simp] theorem State.stopDrum_interlock (s : State) :
    s.stopDrum.interlock = s.interlock := by unfold State.stopDrum; split <;> simp
@[simp] theorem State.stopDrum_timeBase (s : State) :
    s.stopDrum.timeBase = s.timeBase := by unfold State.stopDrum; split <;> simp
@[simp] theorem State.stopDrum_scratch (s : State) :
    s.stopDrum.scratch = s.scratch := by unfold State.stopDrum; split <;> simp
@[simp] theorem State.stopDrum_pending (s : State) :
    s.stopDrum.pending = s.pending := by unfold State.stopDrum; split <;> simp

/-! ### startDrum -/

@[simp] theorem State.startDrum_sensors (s : State) :
    s.startDrum.sensors = s.sensors := by unfold State.startDrum; split <;> simp
@[simp] theorem State.startDrum_transport (s : State) :
    s.startDrum.transport = s.transport := by unfold State.startDrum; split <;> simp
@[simp] theorem State.startDrum_position (s : State) :
    s.startDrum.position = s.position := by unfold State.startDrum; split <;> simp
@[simp] theorem State.startDrum_remaining (s : State) :
    s.startDrum.remaining = s.remaining := by unfold State.startDrum; split <;> simp
@[simp] theorem State.startDrum_tuner (s : State) :
    s.startDrum.tuner = s.tuner := by unfold State.startDrum; split <;> simp
@[simp] theorem State.startDrum_decoder (s : State) :
    s.startDrum.decoder = s.decoder := by unfold State.startDrum; split <;> simp
@[simp] theorem State.startDrum_clock (s : State) :
    s.startDrum.clock = s.clock := by unfold State.startDrum; split <;> simp
@[simp] theorem State.startDrum_scheduler (s : State) :
    s.startDrum.scheduler = s.scheduler := by unfold State.startDrum; split <;> simp
@[simp] theorem State.startDrum_power (s : State) :
    s.startDrum.power = s.power := by unfold State.startDrum; split <;> simp
@[simp] theorem State.startDrum_requests (s : State) :
    s.startDrum.requests = s.requests := by unfold State.startDrum; split <;> simp
@[simp] theorem State.startDrum_claims (s : State) :
    s.startDrum.claims = s.claims := by unfold State.startDrum; split <;> simp
@[simp] theorem State.startDrum_port (s : State) :
    s.startDrum.port = s.port := by unfold State.startDrum; split <;> simp
@[simp] theorem State.startDrum_presenter (s : State) :
    s.startDrum.presenter = s.presenter := by unfold State.startDrum; split <;> simp
@[simp] theorem State.startDrum_lamps (s : State) :
    s.startDrum.lamps = s.lamps := by unfold State.startDrum; split <;> simp
@[simp] theorem State.startDrum_mem (s : State) :
    s.startDrum.mem = s.mem := by unfold State.startDrum; split <;> simp
@[simp] theorem State.startDrum_losses (s : State) :
    s.startDrum.losses = s.losses := by unfold State.startDrum; split <;> simp
@[simp] theorem State.startDrum_draws (s : State) :
    s.startDrum.draws = s.draws := by unfold State.startDrum; split <;> simp
@[simp] theorem State.startDrum_interlock (s : State) :
    s.startDrum.interlock = s.interlock := by unfold State.startDrum; split <;> simp
@[simp] theorem State.startDrum_timeBase (s : State) :
    s.startDrum.timeBase = s.timeBase := by unfold State.startDrum; split <;> simp
@[simp] theorem State.startDrum_scratch (s : State) :
    s.startDrum.scratch = s.scratch := by unfold State.startDrum; split <;> simp
@[simp] theorem State.startDrum_pending (s : State) :
    s.startDrum.pending = s.pending := by unfold State.startDrum; split <;> simp

/-! ### endManual -/

@[simp] theorem State.endManual_sensors (s : State) :
    s.endManual.sensors = s.sensors := by unfold State.endManual; split <;> simp
@[simp] theorem State.endManual_servo (s : State) :
    s.endManual.servo = s.servo := by unfold State.endManual; split <;> simp
@[simp] theorem State.endManual_position (s : State) :
    s.endManual.position = s.position := by unfold State.endManual; split <;> simp
@[simp] theorem State.endManual_remaining (s : State) :
    s.endManual.remaining = s.remaining := by unfold State.endManual; split <;> simp
@[simp] theorem State.endManual_scheduler (s : State) :
    s.endManual.scheduler = s.scheduler := by unfold State.endManual; split <;> simp
@[simp] theorem State.endManual_power (s : State) :
    s.endManual.power = s.power := by unfold State.endManual; split <;> simp
@[simp] theorem State.endManual_claims (s : State) :
    s.endManual.claims = s.claims := by unfold State.endManual; split <;> simp
@[simp] theorem State.endManual_port (s : State) :
    s.endManual.port = s.port := by unfold State.endManual; split <;> simp
@[simp] theorem State.endManual_lamps (s : State) :
    s.endManual.lamps = s.lamps := by unfold State.endManual; split <;> simp
@[simp] theorem State.endManual_mem (s : State) :
    s.endManual.mem = s.mem := by unfold State.endManual; split <;> simp
@[simp] theorem State.endManual_losses (s : State) :
    s.endManual.losses = s.losses := by unfold State.endManual; split <;> simp
@[simp] theorem State.endManual_draws (s : State) :
    s.endManual.draws = s.draws := by unfold State.endManual; split <;> simp
@[simp] theorem State.endManual_interlock (s : State) :
    s.endManual.interlock = s.interlock := by unfold State.endManual; split <;> simp
@[simp] theorem State.endManual_timeBase (s : State) :
    s.endManual.timeBase = s.timeBase := by unfold State.endManual; split <;> simp
@[simp] theorem State.endManual_pending (s : State) :
    s.endManual.pending = s.pending := by unfold State.endManual; split <;> simp

/-! ### freePending -/

@[simp] theorem State.freePending_sensors (s : State) :
    s.freePending.sensors = s.sensors := by unfold State.freePending; (repeat' split) <;> simp
@[simp] theorem State.freePending_servo (s : State) :
    s.freePending.servo = s.servo := by unfold State.freePending; (repeat' split) <;> simp
@[simp] theorem State.freePending_position (s : State) :
    s.freePending.position = s.position := by unfold State.freePending; (repeat' split) <;> simp
@[simp] theorem State.freePending_remaining (s : State) :
    s.freePending.remaining = s.remaining := by unfold State.freePending; (repeat' split) <;> simp
@[simp] theorem State.freePending_tuner (s : State) :
    s.freePending.tuner = s.tuner := by unfold State.freePending; (repeat' split) <;> simp
@[simp] theorem State.freePending_decoder (s : State) :
    s.freePending.decoder = s.decoder := by unfold State.freePending; (repeat' split) <;> simp
@[simp] theorem State.freePending_clock (s : State) :
    s.freePending.clock = s.clock := by unfold State.freePending; (repeat' split) <;> simp
@[simp] theorem State.freePending_scheduler (s : State) :
    s.freePending.scheduler = s.scheduler := by unfold State.freePending; (repeat' split) <;> simp
@[simp] theorem State.freePending_power (s : State) :
    s.freePending.power = s.power := by unfold State.freePending; (repeat' split) <;> simp
@[simp] theorem State.freePending_requests (s : State) :
    s.freePending.requests = s.requests := by unfold State.freePending; (repeat' split) <;> simp
@[simp] theorem State.freePending_claims (s : State) :
    s.freePending.claims = s.claims := by unfold State.freePending; (repeat' split) <;> simp
@[simp] theorem State.freePending_port (s : State) :
    s.freePending.port = s.port := by unfold State.freePending; (repeat' split) <;> simp
@[simp] theorem State.freePending_presenter (s : State) :
    s.freePending.presenter = s.presenter := by unfold State.freePending; (repeat' split) <;> simp
@[simp] theorem State.freePending_lamps (s : State) :
    s.freePending.lamps = s.lamps := by unfold State.freePending; (repeat' split) <;> simp
@[simp] theorem State.freePending_mem (s : State) :
    s.freePending.mem = s.mem := by unfold State.freePending; (repeat' split) <;> simp
@[simp] theorem State.freePending_losses (s : State) :
    s.freePending.losses = s.losses := by unfold State.freePending; (repeat' split) <;> simp
@[simp] theorem State.freePending_draws (s : State) :
    s.freePending.draws = s.draws := by unfold State.freePending; (repeat' split) <;> simp
@[simp] theorem State.freePending_interlock (s : State) :
    s.freePending.interlock = s.interlock := by unfold State.freePending; (repeat' split) <;> simp
@[simp] theorem State.freePending_timeBase (s : State) :
    s.freePending.timeBase = s.timeBase := by unfold State.freePending; (repeat' split) <;> simp
@[simp] theorem State.freePending_scratch (s : State) :
    s.freePending.scratch = s.scratch := by unfold State.freePending; (repeat' split) <;> simp
@[simp] theorem State.freePending_pending (s : State) :
    s.freePending.pending = s.pending := by unfold State.freePending; (repeat' split) <;> simp

/-! ### leaveMode -/

@[simp] theorem State.leaveMode_sensors (s : State) (m : Mode) :
    (s.leaveMode m).sensors = s.sensors := by unfold State.leaveMode; (try dsimp only); (repeat' split) <;> simp
@[simp] theorem State.leaveMode_remaining (s : State) (m : Mode) :
    (s.leaveMode m).remaining = s.remaining := by unfold State.leaveMode; (try dsimp only); (repeat' split) <;> simp
@[simp] theorem State.leaveMode_scheduler (s : State) (m : Mode) :
    (s.leaveMode m).scheduler = s.scheduler := by unfold State.leaveMode; (try dsimp only); (repeat' split) <;> simp
@[simp] theorem State.leaveMode_power (s : State) (m : Mode) :
    (s.leaveMode m).power = s.power := by unfold State.leaveMode; (try dsimp only); (repeat' split) <;> simp
@[simp] theorem State.leaveMode_claims (s : State) (m : Mode) :
    (s.leaveMode m).claims = s.claims := by unfold State.leaveMode; (try dsimp only); (repeat' split) <;> simp
@[simp] theorem State.leaveMode_port (s : State) (m : Mode) :
    (s.leaveMode m).port = s.port := by unfold State.leaveMode; (try dsimp only); (repeat' split) <;> simp
@[simp] theorem State.leaveMode_lamps (s : State) (m : Mode) :
    (s.leaveMode m).lamps = s.lamps := by unfold State.leaveMode; (try dsimp only); (repeat' split) <;> simp
@[simp] theorem State.leaveMode_mem (s : State) (m : Mode) :
    (s.leaveMode m).mem = s.mem := by unfold State.leaveMode; (try dsimp only); (repeat' split) <;> simp
@[simp] theorem State.leaveMode_losses (s : State) (m : Mode) :
    (s.leaveMode m).losses = s.losses := by unfold State.leaveMode; (try dsimp only); (repeat' split) <;> simp
@[simp] theorem State.leaveMode_draws (s : State) (m : Mode) :
    (s.leaveMode m).draws = s.draws := by unfold State.leaveMode; (try dsimp only); (repeat' split) <;> simp
@[simp] theorem State.leaveMode_interlock (s : State) (m : Mode) :
    (s.leaveMode m).interlock = s.interlock := by unfold State.leaveMode; (try dsimp only); (repeat' split) <;> simp
@[simp] theorem State.leaveMode_timeBase (s : State) (m : Mode) :
    (s.leaveMode m).timeBase = s.timeBase := by unfold State.leaveMode; (try dsimp only); (repeat' split) <;> simp
@[simp] theorem State.leaveMode_pending (s : State) (m : Mode) :
    (s.leaveMode m).pending = s.pending := by unfold State.leaveMode; (try dsimp only); (repeat' split) <;> simp

/-! ### rewriteMark -/

@[simp] theorem State.rewriteMark_sensors (s : State) (r : MarkRun) :
    (s.rewriteMark r).sensors = s.sensors := by unfold State.rewriteMark; split <;> simp
@[simp] theorem State.rewriteMark_transport (s : State) (r : MarkRun) :
    (s.rewriteMark r).transport = s.transport := by unfold State.rewriteMark; split <;> simp
@[simp] theorem State.rewriteMark_servo (s : State) (r : MarkRun) :
    (s.rewriteMark r).servo = s.servo := by unfold State.rewriteMark; split <;> simp
@[simp] theorem State.rewriteMark_position (s : State) (r : MarkRun) :
    (s.rewriteMark r).position = s.position := by unfold State.rewriteMark; split <;> simp
@[simp] theorem State.rewriteMark_remaining (s : State) (r : MarkRun) :
    (s.rewriteMark r).remaining = s.remaining := by unfold State.rewriteMark; split <;> simp
@[simp] theorem State.rewriteMark_tuner (s : State) (r : MarkRun) :
    (s.rewriteMark r).tuner = s.tuner := by unfold State.rewriteMark; split <;> simp
@[simp] theorem State.rewriteMark_decoder (s : State) (r : MarkRun) :
    (s.rewriteMark r).decoder = s.decoder := by unfold State.rewriteMark; split <;> simp
@[simp] theorem State.rewriteMark_clock (s : State) (r : MarkRun) :
    (s.rewriteMark r).clock = s.clock := by unfold State.rewriteMark; split <;> simp
@[simp] theorem State.rewriteMark_scheduler (s : State) (r : MarkRun) :
    (s.rewriteMark r).scheduler = s.scheduler := by unfold State.rewriteMark; split <;> simp
@[simp] theorem State.rewriteMark_power (s : State) (r : MarkRun) :
    (s.rewriteMark r).power = s.power := by unfold State.rewriteMark; split <;> simp
@[simp] theorem State.rewriteMark_requests (s : State) (r : MarkRun) :
    (s.rewriteMark r).requests = s.requests := by unfold State.rewriteMark; split <;> simp
@[simp] theorem State.rewriteMark_claims (s : State) (r : MarkRun) :
    (s.rewriteMark r).claims = s.claims := by unfold State.rewriteMark; split <;> simp
@[simp] theorem State.rewriteMark_port (s : State) (r : MarkRun) :
    (s.rewriteMark r).port = s.port := by unfold State.rewriteMark; split <;> simp
@[simp] theorem State.rewriteMark_presenter (s : State) (r : MarkRun) :
    (s.rewriteMark r).presenter = s.presenter := by unfold State.rewriteMark; split <;> simp
@[simp] theorem State.rewriteMark_lamps (s : State) (r : MarkRun) :
    (s.rewriteMark r).lamps = s.lamps := by unfold State.rewriteMark; split <;> simp
@[simp] theorem State.rewriteMark_mem (s : State) (r : MarkRun) :
    (s.rewriteMark r).mem = s.mem := by unfold State.rewriteMark; split <;> simp
@[simp] theorem State.rewriteMark_losses (s : State) (r : MarkRun) :
    (s.rewriteMark r).losses = s.losses := by unfold State.rewriteMark; split <;> simp
@[simp] theorem State.rewriteMark_draws (s : State) (r : MarkRun) :
    (s.rewriteMark r).draws = s.draws := by unfold State.rewriteMark; split <;> simp
@[simp] theorem State.rewriteMark_interlock (s : State) (r : MarkRun) :
    (s.rewriteMark r).interlock = s.interlock := by unfold State.rewriteMark; split <;> simp
@[simp] theorem State.rewriteMark_timeBase (s : State) (r : MarkRun) :
    (s.rewriteMark r).timeBase = s.timeBase := by unfold State.rewriteMark; split <;> simp
@[simp] theorem State.rewriteMark_pending (s : State) (r : MarkRun) :
    (s.rewriteMark r).pending = s.pending := by unfold State.rewriteMark; split <;> simp

/-! ### markRunEnded -/

@[simp] theorem State.markRunEnded_sensors (s : State) (x : Option MarkRun) :
    (s.markRunEnded x).sensors = s.sensors := by unfold State.markRunEnded; split <;> simp
@[simp] theorem State.markRunEnded_transport (s : State) (x : Option MarkRun) :
    (s.markRunEnded x).transport = s.transport := by unfold State.markRunEnded; split <;> simp
@[simp] theorem State.markRunEnded_servo (s : State) (x : Option MarkRun) :
    (s.markRunEnded x).servo = s.servo := by unfold State.markRunEnded; split <;> simp
@[simp] theorem State.markRunEnded_position (s : State) (x : Option MarkRun) :
    (s.markRunEnded x).position = s.position := by unfold State.markRunEnded; split <;> simp
@[simp] theorem State.markRunEnded_remaining (s : State) (x : Option MarkRun) :
    (s.markRunEnded x).remaining = s.remaining := by unfold State.markRunEnded; split <;> simp
@[simp] theorem State.markRunEnded_tuner (s : State) (x : Option MarkRun) :
    (s.markRunEnded x).tuner = s.tuner := by unfold State.markRunEnded; split <;> simp
@[simp] theorem State.markRunEnded_decoder (s : State) (x : Option MarkRun) :
    (s.markRunEnded x).decoder = s.decoder := by unfold State.markRunEnded; split <;> simp
@[simp] theorem State.markRunEnded_clock (s : State) (x : Option MarkRun) :
    (s.markRunEnded x).clock = s.clock := by unfold State.markRunEnded; split <;> simp
@[simp] theorem State.markRunEnded_scheduler (s : State) (x : Option MarkRun) :
    (s.markRunEnded x).scheduler = s.scheduler := by unfold State.markRunEnded; split <;> simp
@[simp] theorem State.markRunEnded_power (s : State) (x : Option MarkRun) :
    (s.markRunEnded x).power = s.power := by unfold State.markRunEnded; split <;> simp
@[simp] theorem State.markRunEnded_requests (s : State) (x : Option MarkRun) :
    (s.markRunEnded x).requests = s.requests := by unfold State.markRunEnded; split <;> simp
@[simp] theorem State.markRunEnded_claims (s : State) (x : Option MarkRun) :
    (s.markRunEnded x).claims = s.claims := by unfold State.markRunEnded; split <;> simp
@[simp] theorem State.markRunEnded_port (s : State) (x : Option MarkRun) :
    (s.markRunEnded x).port = s.port := by unfold State.markRunEnded; split <;> simp
@[simp] theorem State.markRunEnded_presenter (s : State) (x : Option MarkRun) :
    (s.markRunEnded x).presenter = s.presenter := by unfold State.markRunEnded; split <;> simp
@[simp] theorem State.markRunEnded_lamps (s : State) (x : Option MarkRun) :
    (s.markRunEnded x).lamps = s.lamps := by unfold State.markRunEnded; split <;> simp
@[simp] theorem State.markRunEnded_mem (s : State) (x : Option MarkRun) :
    (s.markRunEnded x).mem = s.mem := by unfold State.markRunEnded; split <;> simp
@[simp] theorem State.markRunEnded_losses (s : State) (x : Option MarkRun) :
    (s.markRunEnded x).losses = s.losses := by unfold State.markRunEnded; split <;> simp
@[simp] theorem State.markRunEnded_draws (s : State) (x : Option MarkRun) :
    (s.markRunEnded x).draws = s.draws := by unfold State.markRunEnded; split <;> simp
@[simp] theorem State.markRunEnded_interlock (s : State) (x : Option MarkRun) :
    (s.markRunEnded x).interlock = s.interlock := by unfold State.markRunEnded; split <;> simp
@[simp] theorem State.markRunEnded_timeBase (s : State) (x : Option MarkRun) :
    (s.markRunEnded x).timeBase = s.timeBase := by unfold State.markRunEnded; split <;> simp
@[simp] theorem State.markRunEnded_pending (s : State) (x : Option MarkRun) :
    (s.markRunEnded x).pending = s.pending := by unfold State.markRunEnded; split <;> simp

/-! ### enterMode -/

@[simp] theorem State.enterMode_sensors (s : State) :
    s.enterMode.sensors = s.sensors := by unfold State.enterMode; (try dsimp only); (repeat' split) <;> simp
@[simp] theorem State.enterMode_remaining (s : State) :
    s.enterMode.remaining = s.remaining := by unfold State.enterMode; (try dsimp only); (repeat' split) <;> simp
@[simp] theorem State.enterMode_tuner (s : State) :
    s.enterMode.tuner = s.tuner := by unfold State.enterMode; (try dsimp only); (repeat' split) <;> simp
@[simp] theorem State.enterMode_decoder (s : State) :
    s.enterMode.decoder = s.decoder := by unfold State.enterMode; (try dsimp only); (repeat' split) <;> simp
@[simp] theorem State.enterMode_clock (s : State) :
    s.enterMode.clock = s.clock := by unfold State.enterMode; (try dsimp only); (repeat' split) <;> simp
@[simp] theorem State.enterMode_scheduler (s : State) :
    s.enterMode.scheduler = s.scheduler := by unfold State.enterMode; (try dsimp only); (repeat' split) <;> simp
@[simp] theorem State.enterMode_power (s : State) :
    s.enterMode.power = s.power := by unfold State.enterMode; (try dsimp only); (repeat' split) <;> simp
@[simp] theorem State.enterMode_requests (s : State) :
    s.enterMode.requests = s.requests := by unfold State.enterMode; (try dsimp only); (repeat' split) <;> simp
@[simp] theorem State.enterMode_claims (s : State) :
    s.enterMode.claims = s.claims := by unfold State.enterMode; (try dsimp only); (repeat' split) <;> simp
@[simp] theorem State.enterMode_port (s : State) :
    s.enterMode.port = s.port := by unfold State.enterMode; (try dsimp only); (repeat' split) <;> simp
@[simp] theorem State.enterMode_presenter (s : State) :
    s.enterMode.presenter = s.presenter := by unfold State.enterMode; (try dsimp only); (repeat' split) <;> simp
@[simp] theorem State.enterMode_lamps (s : State) :
    s.enterMode.lamps = s.lamps := by unfold State.enterMode; (try dsimp only); (repeat' split) <;> simp
@[simp] theorem State.enterMode_mem (s : State) :
    s.enterMode.mem = s.mem := by unfold State.enterMode; (try dsimp only); (repeat' split) <;> simp
@[simp] theorem State.enterMode_losses (s : State) :
    s.enterMode.losses = s.losses := by unfold State.enterMode; (try dsimp only); (repeat' split) <;> simp
@[simp] theorem State.enterMode_draws (s : State) :
    s.enterMode.draws = s.draws := by unfold State.enterMode; (try dsimp only); (repeat' split) <;> simp
@[simp] theorem State.enterMode_interlock (s : State) :
    s.enterMode.interlock = s.interlock := by unfold State.enterMode; (try dsimp only); (repeat' split) <;> simp
@[simp] theorem State.enterMode_timeBase (s : State) :
    s.enterMode.timeBase = s.timeBase := by unfold State.enterMode; (try dsimp only); (repeat' split) <;> simp
@[simp] theorem State.enterMode_pending (s : State) :
    s.enterMode.pending = s.pending := by unfold State.enterMode; (try dsimp only); (repeat' split) <;> simp

/-! ### setMode -/

@[simp] theorem State.setMode_sensors (s : State) (m : Mode) :
    (s.setMode m).sensors = s.sensors := by unfold State.setMode; split <;> simp
@[simp] theorem State.setMode_remaining (s : State) (m : Mode) :
    (s.setMode m).remaining = s.remaining := by unfold State.setMode; split <;> simp
@[simp] theorem State.setMode_scheduler (s : State) (m : Mode) :
    (s.setMode m).scheduler = s.scheduler := by unfold State.setMode; split <;> simp
@[simp] theorem State.setMode_power (s : State) (m : Mode) :
    (s.setMode m).power = s.power := by unfold State.setMode; split <;> simp
@[simp] theorem State.setMode_claims (s : State) (m : Mode) :
    (s.setMode m).claims = s.claims := by unfold State.setMode; split <;> simp
@[simp] theorem State.setMode_port (s : State) (m : Mode) :
    (s.setMode m).port = s.port := by unfold State.setMode; split <;> simp
@[simp] theorem State.setMode_lamps (s : State) (m : Mode) :
    (s.setMode m).lamps = s.lamps := by unfold State.setMode; split <;> simp
@[simp] theorem State.setMode_mem (s : State) (m : Mode) :
    (s.setMode m).mem = s.mem := by unfold State.setMode; split <;> simp
@[simp] theorem State.setMode_losses (s : State) (m : Mode) :
    (s.setMode m).losses = s.losses := by unfold State.setMode; split <;> simp
@[simp] theorem State.setMode_draws (s : State) (m : Mode) :
    (s.setMode m).draws = s.draws := by unfold State.setMode; split <;> simp
@[simp] theorem State.setMode_interlock (s : State) (m : Mode) :
    (s.setMode m).interlock = s.interlock := by unfold State.setMode; split <;> simp
@[simp] theorem State.setMode_timeBase (s : State) (m : Mode) :
    (s.setMode m).timeBase = s.timeBase := by unfold State.setMode; split <;> simp
@[simp] theorem State.setMode_pending (s : State) (m : Mode) :
    (s.setMode m).pending = s.pending := by unfold State.setMode; split <;> simp

/-! ### enterCam -/

@[simp] theorem State.enterCam_sensors (s : State) (p : Path) :
    (s.enterCam p).sensors = s.sensors := by unfold State.enterCam; (try dsimp only); (repeat' split) <;> simp
@[simp] theorem State.enterCam_position (s : State) (p : Path) :
    (s.enterCam p).position = s.position := by unfold State.enterCam; (try dsimp only); (repeat' split) <;> simp
@[simp] theorem State.enterCam_remaining (s : State) (p : Path) :
    (s.enterCam p).remaining = s.remaining := by unfold State.enterCam; (try dsimp only); (repeat' split) <;> simp
@[simp] theorem State.enterCam_tuner (s : State) (p : Path) :
    (s.enterCam p).tuner = s.tuner := by unfold State.enterCam; (try dsimp only); (repeat' split) <;> simp
@[simp] theorem State.enterCam_decoder (s : State) (p : Path) :
    (s.enterCam p).decoder = s.decoder := by unfold State.enterCam; (try dsimp only); (repeat' split) <;> simp
@[simp] theorem State.enterCam_clock (s : State) (p : Path) :
    (s.enterCam p).clock = s.clock := by unfold State.enterCam; (try dsimp only); (repeat' split) <;> simp
@[simp] theorem State.enterCam_scheduler (s : State) (p : Path) :
    (s.enterCam p).scheduler = s.scheduler := by unfold State.enterCam; (try dsimp only); (repeat' split) <;> simp
@[simp] theorem State.enterCam_power (s : State) (p : Path) :
    (s.enterCam p).power = s.power := by unfold State.enterCam; (try dsimp only); (repeat' split) <;> simp
@[simp] theorem State.enterCam_requests (s : State) (p : Path) :
    (s.enterCam p).requests = s.requests := by unfold State.enterCam; (try dsimp only); (repeat' split) <;> simp
@[simp] theorem State.enterCam_claims (s : State) (p : Path) :
    (s.enterCam p).claims = s.claims := by unfold State.enterCam; (try dsimp only); (repeat' split) <;> simp
@[simp] theorem State.enterCam_port (s : State) (p : Path) :
    (s.enterCam p).port = s.port := by unfold State.enterCam; (try dsimp only); (repeat' split) <;> simp
@[simp] theorem State.enterCam_presenter (s : State) (p : Path) :
    (s.enterCam p).presenter = s.presenter := by unfold State.enterCam; (try dsimp only); (repeat' split) <;> simp
@[simp] theorem State.enterCam_lamps (s : State) (p : Path) :
    (s.enterCam p).lamps = s.lamps := by unfold State.enterCam; (try dsimp only); (repeat' split) <;> simp
@[simp] theorem State.enterCam_mem (s : State) (p : Path) :
    (s.enterCam p).mem = s.mem := by unfold State.enterCam; (try dsimp only); (repeat' split) <;> simp
@[simp] theorem State.enterCam_losses (s : State) (p : Path) :
    (s.enterCam p).losses = s.losses := by unfold State.enterCam; (try dsimp only); (repeat' split) <;> simp
@[simp] theorem State.enterCam_draws (s : State) (p : Path) :
    (s.enterCam p).draws = s.draws := by unfold State.enterCam; (try dsimp only); (repeat' split) <;> simp
@[simp] theorem State.enterCam_interlock (s : State) (p : Path) :
    (s.enterCam p).interlock = s.interlock := by unfold State.enterCam; (try dsimp only); (repeat' split) <;> simp
@[simp] theorem State.enterCam_timeBase (s : State) (p : Path) :
    (s.enterCam p).timeBase = s.timeBase := by unfold State.enterCam; (try dsimp only); (repeat' split) <;> simp
@[simp] theorem State.enterCam_scratch (s : State) (p : Path) :
    (s.enterCam p).scratch = s.scratch := by unfold State.enterCam; (try dsimp only); (repeat' split) <;> simp
@[simp] theorem State.enterCam_pending (s : State) (p : Path) :
    (s.enterCam p).pending = s.pending := by unfold State.enterCam; (try dsimp only); (repeat' split) <;> simp

/-! ### startStages -/

@[simp] theorem State.startStages_sensors (s : State) (p : Path) :
    (s.startStages p).sensors = s.sensors := by unfold State.startStages; (try dsimp only); (repeat' split) <;> simp
@[simp] theorem State.startStages_scheduler (s : State) (p : Path) :
    (s.startStages p).scheduler = s.scheduler := by unfold State.startStages; (try dsimp only); (repeat' split) <;> simp
@[simp] theorem State.startStages_power (s : State) (p : Path) :
    (s.startStages p).power = s.power := by unfold State.startStages; (try dsimp only); (repeat' split) <;> simp
@[simp] theorem State.startStages_claims (s : State) (p : Path) :
    (s.startStages p).claims = s.claims := by unfold State.startStages; (try dsimp only); (repeat' split) <;> simp
@[simp] theorem State.startStages_port (s : State) (p : Path) :
    (s.startStages p).port = s.port := by unfold State.startStages; (try dsimp only); (repeat' split) <;> simp
@[simp] theorem State.startStages_lamps (s : State) (p : Path) :
    (s.startStages p).lamps = s.lamps := by unfold State.startStages; (try dsimp only); (repeat' split) <;> simp
@[simp] theorem State.startStages_mem (s : State) (p : Path) :
    (s.startStages p).mem = s.mem := by unfold State.startStages; (try dsimp only); (repeat' split) <;> simp
@[simp] theorem State.startStages_losses (s : State) (p : Path) :
    (s.startStages p).losses = s.losses := by unfold State.startStages; (try dsimp only); (repeat' split) <;> simp
@[simp] theorem State.startStages_draws (s : State) (p : Path) :
    (s.startStages p).draws = s.draws := by unfold State.startStages; (try dsimp only); (repeat' split) <;> simp
@[simp] theorem State.startStages_interlock (s : State) (p : Path) :
    (s.startStages p).interlock = s.interlock := by unfold State.startStages; (try dsimp only); (repeat' split) <;> simp
@[simp] theorem State.startStages_timeBase (s : State) (p : Path) :
    (s.startStages p).timeBase = s.timeBase := by unfold State.startStages; (try dsimp only); (repeat' split) <;> simp
@[simp] theorem State.startStages_pending (s : State) (p : Path) :
    (s.startStages p).pending = s.pending := by unfold State.startStages; (try dsimp only); (repeat' split) <;> simp

/-! ### beginPath -/

@[simp] theorem State.beginPath_sensors (s : State) (g : Goal) (o : Bool) :
    (s.beginPath g o).sensors = s.sensors := by unfold State.beginPath; split <;> simp
@[simp] theorem State.beginPath_scheduler (s : State) (g : Goal) (o : Bool) :
    (s.beginPath g o).scheduler = s.scheduler := by unfold State.beginPath; split <;> simp
@[simp] theorem State.beginPath_power (s : State) (g : Goal) (o : Bool) :
    (s.beginPath g o).power = s.power := by unfold State.beginPath; split <;> simp
@[simp] theorem State.beginPath_claims (s : State) (g : Goal) (o : Bool) :
    (s.beginPath g o).claims = s.claims := by unfold State.beginPath; split <;> simp
@[simp] theorem State.beginPath_port (s : State) (g : Goal) (o : Bool) :
    (s.beginPath g o).port = s.port := by unfold State.beginPath; split <;> simp
@[simp] theorem State.beginPath_lamps (s : State) (g : Goal) (o : Bool) :
    (s.beginPath g o).lamps = s.lamps := by unfold State.beginPath; split <;> simp
@[simp] theorem State.beginPath_mem (s : State) (g : Goal) (o : Bool) :
    (s.beginPath g o).mem = s.mem := by unfold State.beginPath; split <;> simp
@[simp] theorem State.beginPath_losses (s : State) (g : Goal) (o : Bool) :
    (s.beginPath g o).losses = s.losses := by unfold State.beginPath; split <;> simp
@[simp] theorem State.beginPath_draws (s : State) (g : Goal) (o : Bool) :
    (s.beginPath g o).draws = s.draws := by unfold State.beginPath; split <;> simp
@[simp] theorem State.beginPath_interlock (s : State) (g : Goal) (o : Bool) :
    (s.beginPath g o).interlock = s.interlock := by unfold State.beginPath; split <;> simp
@[simp] theorem State.beginPath_timeBase (s : State) (g : Goal) (o : Bool) :
    (s.beginPath g o).timeBase = s.timeBase := by unfold State.beginPath; split <;> simp
@[simp] theorem State.beginPath_pending (s : State) (g : Goal) (o : Bool) :
    (s.beginPath g o).pending = s.pending := by unfold State.beginPath; split <;> simp

/-! ### stopPath -/

@[simp] theorem State.stopPath_sensors (s : State) :
    s.stopPath.sensors = s.sensors := by unfold State.stopPath; split <;> simp
@[simp] theorem State.stopPath_scheduler (s : State) :
    s.stopPath.scheduler = s.scheduler := by unfold State.stopPath; split <;> simp
@[simp] theorem State.stopPath_power (s : State) :
    s.stopPath.power = s.power := by unfold State.stopPath; split <;> simp
@[simp] theorem State.stopPath_claims (s : State) :
    s.stopPath.claims = s.claims := by unfold State.stopPath; split <;> simp
@[simp] theorem State.stopPath_port (s : State) :
    s.stopPath.port = s.port := by unfold State.stopPath; split <;> simp
@[simp] theorem State.stopPath_lamps (s : State) :
    s.stopPath.lamps = s.lamps := by unfold State.stopPath; split <;> simp
@[simp] theorem State.stopPath_mem (s : State) :
    s.stopPath.mem = s.mem := by unfold State.stopPath; split <;> simp
@[simp] theorem State.stopPath_losses (s : State) :
    s.stopPath.losses = s.losses := by unfold State.stopPath; split <;> simp
@[simp] theorem State.stopPath_draws (s : State) :
    s.stopPath.draws = s.draws := by unfold State.stopPath; split <;> simp
@[simp] theorem State.stopPath_interlock (s : State) :
    s.stopPath.interlock = s.interlock := by unfold State.stopPath; split <;> simp
@[simp] theorem State.stopPath_timeBase (s : State) :
    s.stopPath.timeBase = s.timeBase := by unfold State.stopPath; split <;> simp
@[simp] theorem State.stopPath_pending (s : State) :
    s.stopPath.pending = s.pending := by unfold State.stopPath; split <;> simp

/-! ### failTransport -/

@[simp] theorem State.failTransport_sensors (s : State) (o : ReqOutcome) (y : Reason) :
    (s.failTransport o y).sensors = s.sensors := by simp [State.failTransport]
@[simp] theorem State.failTransport_transport (s : State) (o : ReqOutcome) (y : Reason) :
    (s.failTransport o y).transport = s.transport := by simp [State.failTransport]
@[simp] theorem State.failTransport_servo (s : State) (o : ReqOutcome) (y : Reason) :
    (s.failTransport o y).servo = s.servo := by simp [State.failTransport]
@[simp] theorem State.failTransport_remaining (s : State) (o : ReqOutcome) (y : Reason) :
    (s.failTransport o y).remaining = s.remaining := by simp [State.failTransport]
@[simp] theorem State.failTransport_tuner (s : State) (o : ReqOutcome) (y : Reason) :
    (s.failTransport o y).tuner = s.tuner := by simp [State.failTransport]
@[simp] theorem State.failTransport_decoder (s : State) (o : ReqOutcome) (y : Reason) :
    (s.failTransport o y).decoder = s.decoder := by simp [State.failTransport]
@[simp] theorem State.failTransport_clock (s : State) (o : ReqOutcome) (y : Reason) :
    (s.failTransport o y).clock = s.clock := by simp [State.failTransport]
@[simp] theorem State.failTransport_scheduler (s : State) (o : ReqOutcome) (y : Reason) :
    (s.failTransport o y).scheduler = s.scheduler := by simp [State.failTransport]
@[simp] theorem State.failTransport_power (s : State) (o : ReqOutcome) (y : Reason) :
    (s.failTransport o y).power = s.power := by simp [State.failTransport]
@[simp] theorem State.failTransport_claims (s : State) (o : ReqOutcome) (y : Reason) :
    (s.failTransport o y).claims = s.claims := by simp [State.failTransport]
@[simp] theorem State.failTransport_port (s : State) (o : ReqOutcome) (y : Reason) :
    (s.failTransport o y).port = s.port := by simp [State.failTransport]
@[simp] theorem State.failTransport_lamps (s : State) (o : ReqOutcome) (y : Reason) :
    (s.failTransport o y).lamps = s.lamps := by simp [State.failTransport]
@[simp] theorem State.failTransport_mem (s : State) (o : ReqOutcome) (y : Reason) :
    (s.failTransport o y).mem = s.mem := by simp [State.failTransport]
@[simp] theorem State.failTransport_losses (s : State) (o : ReqOutcome) (y : Reason) :
    (s.failTransport o y).losses = s.losses := by simp [State.failTransport]
@[simp] theorem State.failTransport_draws (s : State) (o : ReqOutcome) (y : Reason) :
    (s.failTransport o y).draws = s.draws := by simp [State.failTransport]
@[simp] theorem State.failTransport_interlock (s : State) (o : ReqOutcome) (y : Reason) :
    (s.failTransport o y).interlock = s.interlock := by simp [State.failTransport]
@[simp] theorem State.failTransport_timeBase (s : State) (o : ReqOutcome) (y : Reason) :
    (s.failTransport o y).timeBase = s.timeBase := by simp [State.failTransport]
@[simp] theorem State.failTransport_pending (s : State) (o : ReqOutcome) (y : Reason) :
    (s.failTransport o y).pending = s.pending := by simp [State.failTransport]

/-! ### enterFault -/

@[simp] theorem State.enterFault_sensors (s : State) (c : FaultCode) (f : Fin 16 → Note) :
    (s.enterFault c f).sensors = s.sensors := by simp [State.enterFault]
@[simp] theorem State.enterFault_scheduler (s : State) (c : FaultCode) (f : Fin 16 → Note) :
    (s.enterFault c f).scheduler = s.scheduler := by simp [State.enterFault]
@[simp] theorem State.enterFault_power (s : State) (c : FaultCode) (f : Fin 16 → Note) :
    (s.enterFault c f).power = s.power := by simp [State.enterFault]
@[simp] theorem State.enterFault_claims (s : State) (c : FaultCode) (f : Fin 16 → Note) :
    (s.enterFault c f).claims = s.claims := by simp [State.enterFault]
@[simp] theorem State.enterFault_port (s : State) (c : FaultCode) (f : Fin 16 → Note) :
    (s.enterFault c f).port = s.port := by simp [State.enterFault]
@[simp] theorem State.enterFault_lamps (s : State) (c : FaultCode) (f : Fin 16 → Note) :
    (s.enterFault c f).lamps = s.lamps := by simp [State.enterFault]
@[simp] theorem State.enterFault_mem (s : State) (c : FaultCode) (f : Fin 16 → Note) :
    (s.enterFault c f).mem = s.mem := by simp [State.enterFault]
@[simp] theorem State.enterFault_losses (s : State) (c : FaultCode) (f : Fin 16 → Note) :
    (s.enterFault c f).losses = s.losses := by simp [State.enterFault]
@[simp] theorem State.enterFault_draws (s : State) (c : FaultCode) (f : Fin 16 → Note) :
    (s.enterFault c f).draws = s.draws := by simp [State.enterFault]
@[simp] theorem State.enterFault_interlock (s : State) (c : FaultCode) (f : Fin 16 → Note) :
    (s.enterFault c f).interlock = s.interlock := by simp [State.enterFault]
@[simp] theorem State.enterFault_timeBase (s : State) (c : FaultCode) (f : Fin 16 → Note) :
    (s.enterFault c f).timeBase = s.timeBase := by simp [State.enterFault]
@[simp] theorem State.enterFault_pending (s : State) (c : FaultCode) (f : Fin 16 → Note) :
    (s.enterFault c f).pending = s.pending := by simp [State.enterFault]

/-! ### safeStop -/

@[simp] theorem State.safeStop_sensors (s : State) : s.safeStop.sensors = s.sensors := by rfl
@[simp] theorem State.safeStop_tuner (s : State) : s.safeStop.tuner = s.tuner := by rfl
@[simp] theorem State.safeStop_decoder (s : State) : s.safeStop.decoder = s.decoder := by rfl
@[simp] theorem State.safeStop_clock (s : State) : s.safeStop.clock = s.clock := by rfl
@[simp] theorem State.safeStop_scheduler (s : State) : s.safeStop.scheduler = s.scheduler := by rfl
@[simp] theorem State.safeStop_power (s : State) : s.safeStop.power = s.power := by rfl
@[simp] theorem State.safeStop_requests (s : State) : s.safeStop.requests = s.requests := by rfl
@[simp] theorem State.safeStop_claims (s : State) : s.safeStop.claims = s.claims := by rfl
@[simp] theorem State.safeStop_port (s : State) : s.safeStop.port = s.port := by rfl
@[simp] theorem State.safeStop_presenter (s : State) : s.safeStop.presenter = s.presenter := by rfl
@[simp] theorem State.safeStop_lamps (s : State) : s.safeStop.lamps = s.lamps := by rfl
@[simp] theorem State.safeStop_mem (s : State) : s.safeStop.mem = s.mem := by rfl
@[simp] theorem State.safeStop_losses (s : State) : s.safeStop.losses = s.losses := by rfl
@[simp] theorem State.safeStop_draws (s : State) : s.safeStop.draws = s.draws := by rfl
@[simp] theorem State.safeStop_interlock (s : State) : s.safeStop.interlock = s.interlock := by rfl
@[simp] theorem State.safeStop_timeBase (s : State) : s.safeStop.timeBase = s.timeBase := by rfl
@[simp] theorem State.safeStop_scratch (s : State) : s.safeStop.scratch = s.scratch := by rfl
@[simp] theorem State.safeStop_pending (s : State) : s.safeStop.pending = s.pending := by rfl
@[simp] theorem State.safeStop_servo (s : State) :
    s.safeStop.servo = { s.servo.stopAll with drumRef := .internal } := by rfl
@[simp] theorem State.safeStop_remaining (s : State) : s.safeStop.remaining = s.remaining.halt := by rfl
@[simp] theorem State.safeStop_position (s : State) :
    s.safeStop.position = { s.position.cutMark with detector := none, locate := none, segment := none } := by rfl
@[simp] theorem State.safeStop_transport (s : State) :
    s.safeStop.transport = { s.transport.clearWork with
      mode := safeMode s.sensors.cam, fault := if s.transport.mode = .faultHold then .none else s.transport.fault
      pinch := false, camMove := none, owner := .none, control := none } := by rfl

/-- The mode of a safe stop neither writes nor holds a fault. -/
theorem safeMode_cases (c : CamAt) : safeMode c = .empty ∨ safeMode c = .loaded ∨ safeMode c = .stopped := by
  rcases c with p | p <;> cases p <;> simp [safeMode, restMode]

/-- R31: the safe stop leaves the drum's reference as its mode has it, though no further event follows it. -/
theorem State.safeStop_drumRef (s : State) : s.safeStop.servo.drumRef = s.safeStop.drumReference := by
  rcases safeMode_cases s.sensors.cam with h | h | h <;>
    simp [State.drumReference, State.goalIs, Transport.clearWork, Mode.records, h]

end Sys2Proof.Machine
end

