-- ==== Sys2Proof/Laws/Event.lean ====
section
/-! SUPPORT. The shape of an event: what its publication and its landing keep, and where its signals end. -/

-- One proof at a time: many at once wait on one another, each with a thread and its stack.
set_option Elab.async false

namespace Sys2Proof.Machine

/-- A fold keeps what each of its steps keeps. -/
theorem foldl_keeps {α β : Type} (f : State → α → State) (g : State → β) (h : ∀ s a, g (f s a) = g s) :
    ∀ (l : List α) (s : State), g (l.foldl f s) = g s
  | [], _ => rfl
  | a :: l, s => (foldl_keeps f g h l (f s a)).trans (h s a)

/-! ### publishGroup -/

@[simp] theorem State.publishGroup_sensors (o : State) (fresh : Bool) (s : State) (g : Fin 7) :
    (State.publishGroup o fresh s g).sensors = s.sensors := by unfold State.publishGroup; (try dsimp only); (repeat' split) <;> simp
@[simp] theorem State.publishGroup_transport (o : State) (fresh : Bool) (s : State) (g : Fin 7) :
    (State.publishGroup o fresh s g).transport = s.transport := by unfold State.publishGroup; (try dsimp only); (repeat' split) <;> simp
@[simp] theorem State.publishGroup_servo (o : State) (fresh : Bool) (s : State) (g : Fin 7) :
    (State.publishGroup o fresh s g).servo = s.servo := by unfold State.publishGroup; (try dsimp only); (repeat' split) <;> simp
@[simp] theorem State.publishGroup_position (o : State) (fresh : Bool) (s : State) (g : Fin 7) :
    (State.publishGroup o fresh s g).position = s.position := by unfold State.publishGroup; (try dsimp only); (repeat' split) <;> simp
@[simp] theorem State.publishGroup_remaining (o : State) (fresh : Bool) (s : State) (g : Fin 7) :
    (State.publishGroup o fresh s g).remaining = s.remaining := by unfold State.publishGroup; (try dsimp only); (repeat' split) <;> simp
@[simp] theorem State.publishGroup_tuner (o : State) (fresh : Bool) (s : State) (g : Fin 7) :
    (State.publishGroup o fresh s g).tuner = s.tuner := by unfold State.publishGroup; (try dsimp only); (repeat' split) <;> simp
@[simp] theorem State.publishGroup_decoder (o : State) (fresh : Bool) (s : State) (g : Fin 7) :
    (State.publishGroup o fresh s g).decoder = s.decoder := by unfold State.publishGroup; (try dsimp only); (repeat' split) <;> simp
@[simp] theorem State.publishGroup_clock (o : State) (fresh : Bool) (s : State) (g : Fin 7) :
    (State.publishGroup o fresh s g).clock = s.clock := by unfold State.publishGroup; (try dsimp only); (repeat' split) <;> simp
@[simp] theorem State.publishGroup_scheduler (o : State) (fresh : Bool) (s : State) (g : Fin 7) :
    (State.publishGroup o fresh s g).scheduler = s.scheduler := by unfold State.publishGroup; (try dsimp only); (repeat' split) <;> simp
@[simp] theorem State.publishGroup_power (o : State) (fresh : Bool) (s : State) (g : Fin 7) :
    (State.publishGroup o fresh s g).power = s.power := by unfold State.publishGroup; (try dsimp only); (repeat' split) <;> simp
@[simp] theorem State.publishGroup_requests (o : State) (fresh : Bool) (s : State) (g : Fin 7) :
    (State.publishGroup o fresh s g).requests = s.requests := by unfold State.publishGroup; (try dsimp only); (repeat' split) <;> simp
@[simp] theorem State.publishGroup_claims (o : State) (fresh : Bool) (s : State) (g : Fin 7) :
    (State.publishGroup o fresh s g).claims = s.claims := by unfold State.publishGroup; (try dsimp only); (repeat' split) <;> simp
@[simp] theorem State.publishGroup_port (o : State) (fresh : Bool) (s : State) (g : Fin 7) :
    (State.publishGroup o fresh s g).port = s.port := by unfold State.publishGroup; (try dsimp only); (repeat' split) <;> simp
@[simp] theorem State.publishGroup_lamps (o : State) (fresh : Bool) (s : State) (g : Fin 7) :
    (State.publishGroup o fresh s g).lamps = s.lamps := by unfold State.publishGroup; (try dsimp only); (repeat' split) <;> simp
@[simp] theorem State.publishGroup_mem (o : State) (fresh : Bool) (s : State) (g : Fin 7) :
    (State.publishGroup o fresh s g).mem = s.mem := by unfold State.publishGroup; (try dsimp only); (repeat' split) <;> simp
@[simp] theorem State.publishGroup_losses (o : State) (fresh : Bool) (s : State) (g : Fin 7) :
    (State.publishGroup o fresh s g).losses = s.losses := by unfold State.publishGroup; (try dsimp only); (repeat' split) <;> simp
@[simp] theorem State.publishGroup_interlock (o : State) (fresh : Bool) (s : State) (g : Fin 7) :
    (State.publishGroup o fresh s g).interlock = s.interlock := by unfold State.publishGroup; (try dsimp only); (repeat' split) <;> simp
@[simp] theorem State.publishGroup_timeBase (o : State) (fresh : Bool) (s : State) (g : Fin 7) :
    (State.publishGroup o fresh s g).timeBase = s.timeBase := by unfold State.publishGroup; (try dsimp only); (repeat' split) <;> simp
@[simp] theorem State.publishGroup_pending (o : State) (fresh : Bool) (s : State) (g : Fin 7) :
    (State.publishGroup o fresh s g).pending = s.pending := by unfold State.publishGroup; (try dsimp only); (repeat' split) <;> simp

/-! ### publishMap -/

@[simp] theorem State.publishMap_sensors (o : State) (fresh : Bool) (s : State) :
    (State.publishMap o fresh s).sensors = s.sensors := by unfold State.publishMap; (repeat' split) <;> simp
@[simp] theorem State.publishMap_transport (o : State) (fresh : Bool) (s : State) :
    (State.publishMap o fresh s).transport = s.transport := by unfold State.publishMap; (repeat' split) <;> simp
@[simp] theorem State.publishMap_servo (o : State) (fresh : Bool) (s : State) :
    (State.publishMap o fresh s).servo = s.servo := by unfold State.publishMap; (repeat' split) <;> simp
@[simp] theorem State.publishMap_position (o : State) (fresh : Bool) (s : State) :
    (State.publishMap o fresh s).position = s.position := by unfold State.publishMap; (repeat' split) <;> simp
@[simp] theorem State.publishMap_remaining (o : State) (fresh : Bool) (s : State) :
    (State.publishMap o fresh s).remaining = s.remaining := by unfold State.publishMap; (repeat' split) <;> simp
@[simp] theorem State.publishMap_tuner (o : State) (fresh : Bool) (s : State) :
    (State.publishMap o fresh s).tuner = s.tuner := by unfold State.publishMap; (repeat' split) <;> simp
@[simp] theorem State.publishMap_decoder (o : State) (fresh : Bool) (s : State) :
    (State.publishMap o fresh s).decoder = s.decoder := by unfold State.publishMap; (repeat' split) <;> simp
@[simp] theorem State.publishMap_clock (o : State) (fresh : Bool) (s : State) :
    (State.publishMap o fresh s).clock = s.clock := by unfold State.publishMap; (repeat' split) <;> simp
@[simp] theorem State.publishMap_scheduler (o : State) (fresh : Bool) (s : State) :
    (State.publishMap o fresh s).scheduler = s.scheduler := by unfold State.publishMap; (repeat' split) <;> simp
@[simp] theorem State.publishMap_power (o : State) (fresh : Bool) (s : State) :
    (State.publishMap o fresh s).power = s.power := by unfold State.publishMap; (repeat' split) <;> simp
@[simp] theorem State.publishMap_requests (o : State) (fresh : Bool) (s : State) :
    (State.publishMap o fresh s).requests = s.requests := by unfold State.publishMap; (repeat' split) <;> simp
@[simp] theorem State.publishMap_claims (o : State) (fresh : Bool) (s : State) :
    (State.publishMap o fresh s).claims = s.claims := by unfold State.publishMap; (repeat' split) <;> simp
@[simp] theorem State.publishMap_port (o : State) (fresh : Bool) (s : State) :
    (State.publishMap o fresh s).port = s.port := by unfold State.publishMap; (repeat' split) <;> simp
@[simp] theorem State.publishMap_presenter (o : State) (fresh : Bool) (s : State) :
    (State.publishMap o fresh s).presenter = s.presenter := by unfold State.publishMap; (repeat' split) <;> simp
@[simp] theorem State.publishMap_lamps (o : State) (fresh : Bool) (s : State) :
    (State.publishMap o fresh s).lamps = s.lamps := by unfold State.publishMap; (repeat' split) <;> simp
@[simp] theorem State.publishMap_mem (o : State) (fresh : Bool) (s : State) :
    (State.publishMap o fresh s).mem = s.mem := by unfold State.publishMap; (repeat' split) <;> simp
@[simp] theorem State.publishMap_losses (o : State) (fresh : Bool) (s : State) :
    (State.publishMap o fresh s).losses = s.losses := by unfold State.publishMap; (repeat' split) <;> simp
@[simp] theorem State.publishMap_interlock (o : State) (fresh : Bool) (s : State) :
    (State.publishMap o fresh s).interlock = s.interlock := by unfold State.publishMap; (repeat' split) <;> simp
@[simp] theorem State.publishMap_timeBase (o : State) (fresh : Bool) (s : State) :
    (State.publishMap o fresh s).timeBase = s.timeBase := by unfold State.publishMap; (repeat' split) <;> simp
@[simp] theorem State.publishMap_pending (o : State) (fresh : Bool) (s : State) :
    (State.publishMap o fresh s).pending = s.pending := by unfold State.publishMap; (repeat' split) <;> simp

/-! ### publishLabel -/

@[simp] theorem State.publishLabel_sensors (o : State) (fresh : Bool) (s : State) :
    (State.publishLabel o fresh s).sensors = s.sensors := by unfold State.publishLabel; (repeat' split) <;> simp
@[simp] theorem State.publishLabel_transport (o : State) (fresh : Bool) (s : State) :
    (State.publishLabel o fresh s).transport = s.transport := by unfold State.publishLabel; (repeat' split) <;> simp
@[simp] theorem State.publishLabel_servo (o : State) (fresh : Bool) (s : State) :
    (State.publishLabel o fresh s).servo = s.servo := by unfold State.publishLabel; (repeat' split) <;> simp
@[simp] theorem State.publishLabel_position (o : State) (fresh : Bool) (s : State) :
    (State.publishLabel o fresh s).position = s.position := by unfold State.publishLabel; (repeat' split) <;> simp
@[simp] theorem State.publishLabel_remaining (o : State) (fresh : Bool) (s : State) :
    (State.publishLabel o fresh s).remaining = s.remaining := by unfold State.publishLabel; (repeat' split) <;> simp
@[simp] theorem State.publishLabel_tuner (o : State) (fresh : Bool) (s : State) :
    (State.publishLabel o fresh s).tuner = s.tuner := by unfold State.publishLabel; (repeat' split) <;> simp
@[simp] theorem State.publishLabel_decoder (o : State) (fresh : Bool) (s : State) :
    (State.publishLabel o fresh s).decoder = s.decoder := by unfold State.publishLabel; (repeat' split) <;> simp
@[simp] theorem State.publishLabel_clock (o : State) (fresh : Bool) (s : State) :
    (State.publishLabel o fresh s).clock = s.clock := by unfold State.publishLabel; (repeat' split) <;> simp
@[simp] theorem State.publishLabel_scheduler (o : State) (fresh : Bool) (s : State) :
    (State.publishLabel o fresh s).scheduler = s.scheduler := by unfold State.publishLabel; (repeat' split) <;> simp
@[simp] theorem State.publishLabel_power (o : State) (fresh : Bool) (s : State) :
    (State.publishLabel o fresh s).power = s.power := by unfold State.publishLabel; (repeat' split) <;> simp
@[simp] theorem State.publishLabel_requests (o : State) (fresh : Bool) (s : State) :
    (State.publishLabel o fresh s).requests = s.requests := by unfold State.publishLabel; (repeat' split) <;> simp
@[simp] theorem State.publishLabel_claims (o : State) (fresh : Bool) (s : State) :
    (State.publishLabel o fresh s).claims = s.claims := by unfold State.publishLabel; (repeat' split) <;> simp
@[simp] theorem State.publishLabel_port (o : State) (fresh : Bool) (s : State) :
    (State.publishLabel o fresh s).port = s.port := by unfold State.publishLabel; (repeat' split) <;> simp
@[simp] theorem State.publishLabel_presenter (o : State) (fresh : Bool) (s : State) :
    (State.publishLabel o fresh s).presenter = s.presenter := by unfold State.publishLabel; (repeat' split) <;> simp
@[simp] theorem State.publishLabel_lamps (o : State) (fresh : Bool) (s : State) :
    (State.publishLabel o fresh s).lamps = s.lamps := by unfold State.publishLabel; (repeat' split) <;> simp
@[simp] theorem State.publishLabel_mem (o : State) (fresh : Bool) (s : State) :
    (State.publishLabel o fresh s).mem = s.mem := by unfold State.publishLabel; (repeat' split) <;> simp
@[simp] theorem State.publishLabel_losses (o : State) (fresh : Bool) (s : State) :
    (State.publishLabel o fresh s).losses = s.losses := by unfold State.publishLabel; (repeat' split) <;> simp
@[simp] theorem State.publishLabel_interlock (o : State) (fresh : Bool) (s : State) :
    (State.publishLabel o fresh s).interlock = s.interlock := by unfold State.publishLabel; (repeat' split) <;> simp
@[simp] theorem State.publishLabel_timeBase (o : State) (fresh : Bool) (s : State) :
    (State.publishLabel o fresh s).timeBase = s.timeBase := by unfold State.publishLabel; (repeat' split) <;> simp
@[simp] theorem State.publishLabel_pending (o : State) (fresh : Bool) (s : State) :
    (State.publishLabel o fresh s).pending = s.pending := by unfold State.publishLabel; (repeat' split) <;> simp

/-! ### publishEntry -/

@[simp] theorem State.publishEntry_sensors (o : State) (fresh : Bool) (s : State) (n : Fin 16) :
    (State.publishEntry o fresh s n).sensors = s.sensors := by unfold State.publishEntry; (try dsimp only); (repeat' split) <;> simp
@[simp] theorem State.publishEntry_transport (o : State) (fresh : Bool) (s : State) (n : Fin 16) :
    (State.publishEntry o fresh s n).transport = s.transport := by unfold State.publishEntry; (try dsimp only); (repeat' split) <;> simp
@[simp] theorem State.publishEntry_servo (o : State) (fresh : Bool) (s : State) (n : Fin 16) :
    (State.publishEntry o fresh s n).servo = s.servo := by unfold State.publishEntry; (try dsimp only); (repeat' split) <;> simp
@[simp] theorem State.publishEntry_position (o : State) (fresh : Bool) (s : State) (n : Fin 16) :
    (State.publishEntry o fresh s n).position = s.position := by unfold State.publishEntry; (try dsimp only); (repeat' split) <;> simp
@[simp] theorem State.publishEntry_remaining (o : State) (fresh : Bool) (s : State) (n : Fin 16) :
    (State.publishEntry o fresh s n).remaining = s.remaining := by unfold State.publishEntry; (try dsimp only); (repeat' split) <;> simp
@[simp] theorem State.publishEntry_tuner (o : State) (fresh : Bool) (s : State) (n : Fin 16) :
    (State.publishEntry o fresh s n).tuner = s.tuner := by unfold State.publishEntry; (try dsimp only); (repeat' split) <;> simp
@[simp] theorem State.publishEntry_decoder (o : State) (fresh : Bool) (s : State) (n : Fin 16) :
    (State.publishEntry o fresh s n).decoder = s.decoder := by unfold State.publishEntry; (try dsimp only); (repeat' split) <;> simp
@[simp] theorem State.publishEntry_clock (o : State) (fresh : Bool) (s : State) (n : Fin 16) :
    (State.publishEntry o fresh s n).clock = s.clock := by unfold State.publishEntry; (try dsimp only); (repeat' split) <;> simp
@[simp] theorem State.publishEntry_scheduler (o : State) (fresh : Bool) (s : State) (n : Fin 16) :
    (State.publishEntry o fresh s n).scheduler = s.scheduler := by unfold State.publishEntry; (try dsimp only); (repeat' split) <;> simp
@[simp] theorem State.publishEntry_power (o : State) (fresh : Bool) (s : State) (n : Fin 16) :
    (State.publishEntry o fresh s n).power = s.power := by unfold State.publishEntry; (try dsimp only); (repeat' split) <;> simp
@[simp] theorem State.publishEntry_requests (o : State) (fresh : Bool) (s : State) (n : Fin 16) :
    (State.publishEntry o fresh s n).requests = s.requests := by unfold State.publishEntry; (try dsimp only); (repeat' split) <;> simp
@[simp] theorem State.publishEntry_claims (o : State) (fresh : Bool) (s : State) (n : Fin 16) :
    (State.publishEntry o fresh s n).claims = s.claims := by unfold State.publishEntry; (try dsimp only); (repeat' split) <;> simp
@[simp] theorem State.publishEntry_port (o : State) (fresh : Bool) (s : State) (n : Fin 16) :
    (State.publishEntry o fresh s n).port = s.port := by unfold State.publishEntry; (try dsimp only); (repeat' split) <;> simp
@[simp] theorem State.publishEntry_presenter (o : State) (fresh : Bool) (s : State) (n : Fin 16) :
    (State.publishEntry o fresh s n).presenter = s.presenter := by unfold State.publishEntry; (try dsimp only); (repeat' split) <;> simp
@[simp] theorem State.publishEntry_lamps (o : State) (fresh : Bool) (s : State) (n : Fin 16) :
    (State.publishEntry o fresh s n).lamps = s.lamps := by unfold State.publishEntry; (try dsimp only); (repeat' split) <;> simp
@[simp] theorem State.publishEntry_mem (o : State) (fresh : Bool) (s : State) (n : Fin 16) :
    (State.publishEntry o fresh s n).mem = s.mem := by unfold State.publishEntry; (try dsimp only); (repeat' split) <;> simp
@[simp] theorem State.publishEntry_losses (o : State) (fresh : Bool) (s : State) (n : Fin 16) :
    (State.publishEntry o fresh s n).losses = s.losses := by unfold State.publishEntry; (try dsimp only); (repeat' split) <;> simp
@[simp] theorem State.publishEntry_interlock (o : State) (fresh : Bool) (s : State) (n : Fin 16) :
    (State.publishEntry o fresh s n).interlock = s.interlock := by unfold State.publishEntry; (try dsimp only); (repeat' split) <;> simp
@[simp] theorem State.publishEntry_timeBase (o : State) (fresh : Bool) (s : State) (n : Fin 16) :
    (State.publishEntry o fresh s n).timeBase = s.timeBase := by unfold State.publishEntry; (try dsimp only); (repeat' split) <;> simp
@[simp] theorem State.publishEntry_pending (o : State) (fresh : Bool) (s : State) (n : Fin 16) :
    (State.publishEntry o fresh s n).pending = s.pending := by unfold State.publishEntry; (try dsimp only); (repeat' split) <;> simp

/-! ### publishRun -/

@[simp] theorem State.publishRun_sensors (o : State) (fresh : Bool) (s : State) (n : Fin 16) :
    (State.publishRun o fresh s n).sensors = s.sensors := by unfold State.publishRun; (try dsimp only); (repeat' split) <;> simp
@[simp] theorem State.publishRun_transport (o : State) (fresh : Bool) (s : State) (n : Fin 16) :
    (State.publishRun o fresh s n).transport = s.transport := by unfold State.publishRun; (try dsimp only); (repeat' split) <;> simp
@[simp] theorem State.publishRun_servo (o : State) (fresh : Bool) (s : State) (n : Fin 16) :
    (State.publishRun o fresh s n).servo = s.servo := by unfold State.publishRun; (try dsimp only); (repeat' split) <;> simp
@[simp] theorem State.publishRun_position (o : State) (fresh : Bool) (s : State) (n : Fin 16) :
    (State.publishRun o fresh s n).position = s.position := by unfold State.publishRun; (try dsimp only); (repeat' split) <;> simp
@[simp] theorem State.publishRun_remaining (o : State) (fresh : Bool) (s : State) (n : Fin 16) :
    (State.publishRun o fresh s n).remaining = s.remaining := by unfold State.publishRun; (try dsimp only); (repeat' split) <;> simp
@[simp] theorem State.publishRun_tuner (o : State) (fresh : Bool) (s : State) (n : Fin 16) :
    (State.publishRun o fresh s n).tuner = s.tuner := by unfold State.publishRun; (try dsimp only); (repeat' split) <;> simp
@[simp] theorem State.publishRun_decoder (o : State) (fresh : Bool) (s : State) (n : Fin 16) :
    (State.publishRun o fresh s n).decoder = s.decoder := by unfold State.publishRun; (try dsimp only); (repeat' split) <;> simp
@[simp] theorem State.publishRun_clock (o : State) (fresh : Bool) (s : State) (n : Fin 16) :
    (State.publishRun o fresh s n).clock = s.clock := by unfold State.publishRun; (try dsimp only); (repeat' split) <;> simp
@[simp] theorem State.publishRun_scheduler (o : State) (fresh : Bool) (s : State) (n : Fin 16) :
    (State.publishRun o fresh s n).scheduler = s.scheduler := by unfold State.publishRun; (try dsimp only); (repeat' split) <;> simp
@[simp] theorem State.publishRun_power (o : State) (fresh : Bool) (s : State) (n : Fin 16) :
    (State.publishRun o fresh s n).power = s.power := by unfold State.publishRun; (try dsimp only); (repeat' split) <;> simp
@[simp] theorem State.publishRun_requests (o : State) (fresh : Bool) (s : State) (n : Fin 16) :
    (State.publishRun o fresh s n).requests = s.requests := by unfold State.publishRun; (try dsimp only); (repeat' split) <;> simp
@[simp] theorem State.publishRun_claims (o : State) (fresh : Bool) (s : State) (n : Fin 16) :
    (State.publishRun o fresh s n).claims = s.claims := by unfold State.publishRun; (try dsimp only); (repeat' split) <;> simp
@[simp] theorem State.publishRun_port (o : State) (fresh : Bool) (s : State) (n : Fin 16) :
    (State.publishRun o fresh s n).port = s.port := by unfold State.publishRun; (try dsimp only); (repeat' split) <;> simp
@[simp] theorem State.publishRun_presenter (o : State) (fresh : Bool) (s : State) (n : Fin 16) :
    (State.publishRun o fresh s n).presenter = s.presenter := by unfold State.publishRun; (try dsimp only); (repeat' split) <;> simp
@[simp] theorem State.publishRun_lamps (o : State) (fresh : Bool) (s : State) (n : Fin 16) :
    (State.publishRun o fresh s n).lamps = s.lamps := by unfold State.publishRun; (try dsimp only); (repeat' split) <;> simp
@[simp] theorem State.publishRun_mem (o : State) (fresh : Bool) (s : State) (n : Fin 16) :
    (State.publishRun o fresh s n).mem = s.mem := by unfold State.publishRun; (try dsimp only); (repeat' split) <;> simp
@[simp] theorem State.publishRun_losses (o : State) (fresh : Bool) (s : State) (n : Fin 16) :
    (State.publishRun o fresh s n).losses = s.losses := by unfold State.publishRun; (try dsimp only); (repeat' split) <;> simp
@[simp] theorem State.publishRun_interlock (o : State) (fresh : Bool) (s : State) (n : Fin 16) :
    (State.publishRun o fresh s n).interlock = s.interlock := by unfold State.publishRun; (try dsimp only); (repeat' split) <;> simp
@[simp] theorem State.publishRun_timeBase (o : State) (fresh : Bool) (s : State) (n : Fin 16) :
    (State.publishRun o fresh s n).timeBase = s.timeBase := by unfold State.publishRun; (try dsimp only); (repeat' split) <;> simp
@[simp] theorem State.publishRun_pending (o : State) (fresh : Bool) (s : State) (n : Fin 16) :
    (State.publishRun o fresh s n).pending = s.pending := by unfold State.publishRun; (try dsimp only); (repeat' split) <;> simp

@[simp] theorem State.publish_sensors (o : State) (fresh : Bool) (s : State) :
    (State.publish o fresh s).sensors = s.sensors := by
  simp [State.publish, foldl_keeps (State.publishGroup o fresh) State.sensors (State.publishGroup_sensors o fresh),
    foldl_keeps (State.publishRun o fresh) State.sensors (State.publishRun_sensors o fresh),
    foldl_keeps (State.publishEntry o fresh) State.sensors (State.publishEntry_sensors o fresh)]
@[simp] theorem State.publish_transport (o : State) (fresh : Bool) (s : State) :
    (State.publish o fresh s).transport = s.transport := by
  simp [State.publish, foldl_keeps (State.publishGroup o fresh) State.transport (State.publishGroup_transport o fresh),
    foldl_keeps (State.publishRun o fresh) State.transport (State.publishRun_transport o fresh),
    foldl_keeps (State.publishEntry o fresh) State.transport (State.publishEntry_transport o fresh)]
@[simp] theorem State.publish_servo (o : State) (fresh : Bool) (s : State) :
    (State.publish o fresh s).servo = s.servo := by
  simp [State.publish, foldl_keeps (State.publishGroup o fresh) State.servo (State.publishGroup_servo o fresh),
    foldl_keeps (State.publishRun o fresh) State.servo (State.publishRun_servo o fresh),
    foldl_keeps (State.publishEntry o fresh) State.servo (State.publishEntry_servo o fresh)]
@[simp] theorem State.publish_position (o : State) (fresh : Bool) (s : State) :
    (State.publish o fresh s).position = s.position := by
  simp [State.publish, foldl_keeps (State.publishGroup o fresh) State.position (State.publishGroup_position o fresh),
    foldl_keeps (State.publishRun o fresh) State.position (State.publishRun_position o fresh),
    foldl_keeps (State.publishEntry o fresh) State.position (State.publishEntry_position o fresh)]
@[simp] theorem State.publish_remaining (o : State) (fresh : Bool) (s : State) :
    (State.publish o fresh s).remaining = s.remaining := by
  simp [State.publish, foldl_keeps (State.publishGroup o fresh) State.remaining (State.publishGroup_remaining o fresh),
    foldl_keeps (State.publishRun o fresh) State.remaining (State.publishRun_remaining o fresh),
    foldl_keeps (State.publishEntry o fresh) State.remaining (State.publishEntry_remaining o fresh)]
@[simp] theorem State.publish_tuner (o : State) (fresh : Bool) (s : State) :
    (State.publish o fresh s).tuner = s.tuner := by
  simp [State.publish, foldl_keeps (State.publishGroup o fresh) State.tuner (State.publishGroup_tuner o fresh),
    foldl_keeps (State.publishRun o fresh) State.tuner (State.publishRun_tuner o fresh),
    foldl_keeps (State.publishEntry o fresh) State.tuner (State.publishEntry_tuner o fresh)]
@[simp] theorem State.publish_decoder (o : State) (fresh : Bool) (s : State) :
    (State.publish o fresh s).decoder = s.decoder := by
  simp [State.publish, foldl_keeps (State.publishGroup o fresh) State.decoder (State.publishGroup_decoder o fresh),
    foldl_keeps (State.publishRun o fresh) State.decoder (State.publishRun_decoder o fresh),
    foldl_keeps (State.publishEntry o fresh) State.decoder (State.publishEntry_decoder o fresh)]
@[simp] theorem State.publish_clock (o : State) (fresh : Bool) (s : State) :
    (State.publish o fresh s).clock = s.clock := by
  simp [State.publish, foldl_keeps (State.publishGroup o fresh) State.clock (State.publishGroup_clock o fresh),
    foldl_keeps (State.publishRun o fresh) State.clock (State.publishRun_clock o fresh),
    foldl_keeps (State.publishEntry o fresh) State.clock (State.publishEntry_clock o fresh)]
@[simp] theorem State.publish_scheduler (o : State) (fresh : Bool) (s : State) :
    (State.publish o fresh s).scheduler = s.scheduler := by
  simp [State.publish, foldl_keeps (State.publishGroup o fresh) State.scheduler (State.publishGroup_scheduler o fresh),
    foldl_keeps (State.publishRun o fresh) State.scheduler (State.publishRun_scheduler o fresh),
    foldl_keeps (State.publishEntry o fresh) State.scheduler (State.publishEntry_scheduler o fresh)]
@[simp] theorem State.publish_power (o : State) (fresh : Bool) (s : State) :
    (State.publish o fresh s).power = s.power := by
  simp [State.publish, foldl_keeps (State.publishGroup o fresh) State.power (State.publishGroup_power o fresh),
    foldl_keeps (State.publishRun o fresh) State.power (State.publishRun_power o fresh),
    foldl_keeps (State.publishEntry o fresh) State.power (State.publishEntry_power o fresh)]
@[simp] theorem State.publish_requests (o : State) (fresh : Bool) (s : State) :
    (State.publish o fresh s).requests = s.requests := by
  simp [State.publish, foldl_keeps (State.publishGroup o fresh) State.requests (State.publishGroup_requests o fresh),
    foldl_keeps (State.publishRun o fresh) State.requests (State.publishRun_requests o fresh),
    foldl_keeps (State.publishEntry o fresh) State.requests (State.publishEntry_requests o fresh)]
@[simp] theorem State.publish_claims (o : State) (fresh : Bool) (s : State) :
    (State.publish o fresh s).claims = s.claims := by
  simp [State.publish, foldl_keeps (State.publishGroup o fresh) State.claims (State.publishGroup_claims o fresh),
    foldl_keeps (State.publishRun o fresh) State.claims (State.publishRun_claims o fresh),
    foldl_keeps (State.publishEntry o fresh) State.claims (State.publishEntry_claims o fresh)]
@[simp] theorem State.publish_port (o : State) (fresh : Bool) (s : State) :
    (State.publish o fresh s).port = s.port := by
  simp [State.publish, foldl_keeps (State.publishGroup o fresh) State.port (State.publishGroup_port o fresh),
    foldl_keeps (State.publishRun o fresh) State.port (State.publishRun_port o fresh),
    foldl_keeps (State.publishEntry o fresh) State.port (State.publishEntry_port o fresh)]
@[simp] theorem State.publish_lamps (o : State) (fresh : Bool) (s : State) :
    (State.publish o fresh s).lamps = s.lamps := by
  simp [State.publish, foldl_keeps (State.publishGroup o fresh) State.lamps (State.publishGroup_lamps o fresh),
    foldl_keeps (State.publishRun o fresh) State.lamps (State.publishRun_lamps o fresh),
    foldl_keeps (State.publishEntry o fresh) State.lamps (State.publishEntry_lamps o fresh)]
@[simp] theorem State.publish_mem (o : State) (fresh : Bool) (s : State) :
    (State.publish o fresh s).mem = s.mem := by
  simp [State.publish, foldl_keeps (State.publishGroup o fresh) State.mem (State.publishGroup_mem o fresh),
    foldl_keeps (State.publishRun o fresh) State.mem (State.publishRun_mem o fresh),
    foldl_keeps (State.publishEntry o fresh) State.mem (State.publishEntry_mem o fresh)]
@[simp] theorem State.publish_losses (o : State) (fresh : Bool) (s : State) :
    (State.publish o fresh s).losses = s.losses := by
  simp [State.publish, foldl_keeps (State.publishGroup o fresh) State.losses (State.publishGroup_losses o fresh),
    foldl_keeps (State.publishRun o fresh) State.losses (State.publishRun_losses o fresh),
    foldl_keeps (State.publishEntry o fresh) State.losses (State.publishEntry_losses o fresh)]
@[simp] theorem State.publish_interlock (o : State) (fresh : Bool) (s : State) :
    (State.publish o fresh s).interlock = s.interlock := by
  simp [State.publish, foldl_keeps (State.publishGroup o fresh) State.interlock (State.publishGroup_interlock o fresh),
    foldl_keeps (State.publishRun o fresh) State.interlock (State.publishRun_interlock o fresh),
    foldl_keeps (State.publishEntry o fresh) State.interlock (State.publishEntry_interlock o fresh)]
@[simp] theorem State.publish_timeBase (o : State) (fresh : Bool) (s : State) :
    (State.publish o fresh s).timeBase = s.timeBase := by
  simp [State.publish, foldl_keeps (State.publishGroup o fresh) State.timeBase (State.publishGroup_timeBase o fresh),
    foldl_keeps (State.publishRun o fresh) State.timeBase (State.publishRun_timeBase o fresh),
    foldl_keeps (State.publishEntry o fresh) State.timeBase (State.publishEntry_timeBase o fresh)]
@[simp] theorem State.publish_pending (o : State) (fresh : Bool) (s : State) :
    (State.publish o fresh s).pending = s.pending := by
  simp [State.publish, foldl_keeps (State.publishGroup o fresh) State.pending (State.publishGroup_pending o fresh),
    foldl_keeps (State.publishRun o fresh) State.pending (State.publishRun_pending o fresh),
    foldl_keeps (State.publishEntry o fresh) State.pending (State.publishEntry_pending o fresh)]

/-! ### markTaken -/

@[simp] theorem State.markTaken_sensors (w : Word) (o s : State) :
    (State.markTaken w o s).sensors = s.sensors := by unfold State.markTaken; (try dsimp only); (repeat' split) <;> simp
@[simp] theorem State.markTaken_transport (w : Word) (o s : State) :
    (State.markTaken w o s).transport = s.transport := by unfold State.markTaken; (try dsimp only); (repeat' split) <;> simp
@[simp] theorem State.markTaken_servo (w : Word) (o s : State) :
    (State.markTaken w o s).servo = s.servo := by unfold State.markTaken; (try dsimp only); (repeat' split) <;> simp
@[simp] theorem State.markTaken_position (w : Word) (o s : State) :
    (State.markTaken w o s).position = s.position := by unfold State.markTaken; (try dsimp only); (repeat' split) <;> simp
@[simp] theorem State.markTaken_remaining (w : Word) (o s : State) :
    (State.markTaken w o s).remaining = s.remaining := by unfold State.markTaken; (try dsimp only); (repeat' split) <;> simp
@[simp] theorem State.markTaken_tuner (w : Word) (o s : State) :
    (State.markTaken w o s).tuner = s.tuner := by unfold State.markTaken; (try dsimp only); (repeat' split) <;> simp
@[simp] theorem State.markTaken_decoder (w : Word) (o s : State) :
    (State.markTaken w o s).decoder = s.decoder := by unfold State.markTaken; (try dsimp only); (repeat' split) <;> simp
@[simp] theorem State.markTaken_clock (w : Word) (o s : State) :
    (State.markTaken w o s).clock = s.clock := by unfold State.markTaken; (try dsimp only); (repeat' split) <;> simp
@[simp] theorem State.markTaken_scheduler (w : Word) (o s : State) :
    (State.markTaken w o s).scheduler = s.scheduler := by unfold State.markTaken; (try dsimp only); (repeat' split) <;> simp
@[simp] theorem State.markTaken_power (w : Word) (o s : State) :
    (State.markTaken w o s).power = s.power := by unfold State.markTaken; (try dsimp only); (repeat' split) <;> simp
@[simp] theorem State.markTaken_requests (w : Word) (o s : State) :
    (State.markTaken w o s).requests = s.requests := by unfold State.markTaken; (try dsimp only); (repeat' split) <;> simp
@[simp] theorem State.markTaken_claims (w : Word) (o s : State) :
    (State.markTaken w o s).claims = s.claims := by unfold State.markTaken; (try dsimp only); (repeat' split) <;> simp
@[simp] theorem State.markTaken_port (w : Word) (o s : State) :
    (State.markTaken w o s).port = s.port := by unfold State.markTaken; (try dsimp only); (repeat' split) <;> simp
@[simp] theorem State.markTaken_presenter (w : Word) (o s : State) :
    (State.markTaken w o s).presenter = s.presenter := by unfold State.markTaken; (try dsimp only); (repeat' split) <;> simp
@[simp] theorem State.markTaken_lamps (w : Word) (o s : State) :
    (State.markTaken w o s).lamps = s.lamps := by unfold State.markTaken; (try dsimp only); (repeat' split) <;> simp
@[simp] theorem State.markTaken_mem (w : Word) (o s : State) :
    (State.markTaken w o s).mem = s.mem := by unfold State.markTaken; (try dsimp only); (repeat' split) <;> simp
@[simp] theorem State.markTaken_losses (w : Word) (o s : State) :
    (State.markTaken w o s).losses = s.losses := by unfold State.markTaken; (try dsimp only); (repeat' split) <;> simp
@[simp] theorem State.markTaken_interlock (w : Word) (o s : State) :
    (State.markTaken w o s).interlock = s.interlock := by unfold State.markTaken; (try dsimp only); (repeat' split) <;> simp
@[simp] theorem State.markTaken_timeBase (w : Word) (o s : State) :
    (State.markTaken w o s).timeBase = s.timeBase := by unfold State.markTaken; (try dsimp only); (repeat' split) <;> simp
@[simp] theorem State.markTaken_pending (w : Word) (o s : State) :
    (State.markTaken w o s).pending = s.pending := by unfold State.markTaken; (try dsimp only); (repeat' split) <;> simp

/-! ### The landing -/

@[simp] theorem State.land_sensors (o s : State) : (State.land o s).sensors = s.sensors := rfl
@[simp] theorem State.land_transport (o s : State) : (State.land o s).transport = s.transport := rfl
@[simp] theorem State.land_servo (o s : State) : (State.land o s).servo = s.servo := rfl
@[simp] theorem State.land_position (o s : State) : (State.land o s).position = s.position := rfl
@[simp] theorem State.land_remaining (o s : State) : (State.land o s).remaining = s.remaining := rfl
@[simp] theorem State.land_tuner (o s : State) : (State.land o s).tuner = s.tuner := rfl
@[simp] theorem State.land_decoder (o s : State) : (State.land o s).decoder = s.decoder := rfl
@[simp] theorem State.land_clock (o s : State) : (State.land o s).clock = s.clock := rfl
@[simp] theorem State.land_scheduler (o s : State) : (State.land o s).scheduler = s.scheduler := rfl
@[simp] theorem State.land_power (o s : State) : (State.land o s).power = s.power := rfl
@[simp] theorem State.land_requests (o s : State) : (State.land o s).requests = s.requests := rfl
@[simp] theorem State.land_claims (o s : State) : (State.land o s).claims = s.claims := rfl
@[simp] theorem State.land_port (o s : State) : (State.land o s).port = s.port := rfl
@[simp] theorem State.land_presenter (o s : State) : (State.land o s).presenter = s.presenter := rfl
@[simp] theorem State.land_lamps (o s : State) : (State.land o s).lamps = s.lamps := rfl
@[simp] theorem State.land_mem (o s : State) : (State.land o s).mem = Memory.apply o.losses o.mem s.scratch.writes := rfl
@[simp] theorem State.land_losses (o s : State) : (State.land o s).losses = o.losses := rfl
@[simp] theorem State.land_interlock (o s : State) : (State.land o s).interlock = spans s.scratch.writes := rfl
@[simp] theorem State.land_timeBase (o s : State) : (State.land o s).timeBase = s.timeBase := rfl
@[simp] theorem State.land_scratch (o s : State) : (State.land o s).scratch = Scratch.clear := rfl
@[simp] theorem State.land_pending (o s : State) : (State.land o s).pending = o.pending := rfl

/-! ### The rest of an event -/

@[simp] theorem State.finishWith_sensors (last : State → State → State) (o s : State) :
    (State.finishWith last o s).sensors = (last o (State.settleEvent o s)).sensors := by simp [State.finishWith]
@[simp] theorem State.finishWith_transport (last : State → State → State) (o s : State) :
    (State.finishWith last o s).transport = (last o (State.settleEvent o s)).transport := by simp [State.finishWith]
@[simp] theorem State.finishWith_servo (last : State → State → State) (o s : State) :
    (State.finishWith last o s).servo = (last o (State.settleEvent o s)).servo := by simp [State.finishWith]
@[simp] theorem State.finishWith_position (last : State → State → State) (o s : State) :
    (State.finishWith last o s).position = (last o (State.settleEvent o s)).position := by simp [State.finishWith]
@[simp] theorem State.finishWith_remaining (last : State → State → State) (o s : State) :
    (State.finishWith last o s).remaining = (last o (State.settleEvent o s)).remaining := by simp [State.finishWith]
@[simp] theorem State.finishWith_tuner (last : State → State → State) (o s : State) :
    (State.finishWith last o s).tuner = (last o (State.settleEvent o s)).tuner := by simp [State.finishWith]
@[simp] theorem State.finishWith_decoder (last : State → State → State) (o s : State) :
    (State.finishWith last o s).decoder = (last o (State.settleEvent o s)).decoder := by simp [State.finishWith]
@[simp] theorem State.finishWith_clock (last : State → State → State) (o s : State) :
    (State.finishWith last o s).clock = (last o (State.settleEvent o s)).clock := by simp [State.finishWith]
@[simp] theorem State.finishWith_scheduler (last : State → State → State) (o s : State) :
    (State.finishWith last o s).scheduler = (last o (State.settleEvent o s)).scheduler := by simp [State.finishWith]
@[simp] theorem State.finishWith_power (last : State → State → State) (o s : State) :
    (State.finishWith last o s).power = (last o (State.settleEvent o s)).power := by simp [State.finishWith]
@[simp] theorem State.finishWith_requests (last : State → State → State) (o s : State) :
    (State.finishWith last o s).requests = (last o (State.settleEvent o s)).requests := by simp [State.finishWith]
@[simp] theorem State.finishWith_claims (last : State → State → State) (o s : State) :
    (State.finishWith last o s).claims = (last o (State.settleEvent o s)).claims := by simp [State.finishWith]
@[simp] theorem State.finishWith_port (last : State → State → State) (o s : State) :
    (State.finishWith last o s).port = (last o (State.settleEvent o s)).port := by simp [State.finishWith]
@[simp] theorem State.finishWith_lamps (last : State → State → State) (o s : State) :
    (State.finishWith last o s).lamps = (last o (State.settleEvent o s)).lamps := by simp [State.finishWith]
@[simp] theorem State.finishWith_losses (last : State → State → State) (o s : State) :
    (State.finishWith last o s).losses = o.losses := by simp [State.finishWith]
@[simp] theorem State.finishWith_timeBase (last : State → State → State) (o s : State) :
    (State.finishWith last o s).timeBase = (last o (State.settleEvent o s)).timeBase := by simp [State.finishWith]
@[simp] theorem State.finishWith_scratch (last : State → State → State) (o s : State) :
    (State.finishWith last o s).scratch = Scratch.clear := by simp [State.finishWith]
@[simp] theorem State.finishWith_pending (last : State → State → State) (o s : State) :
    (State.finishWith last o s).pending = o.pending := by simp [State.finishWith]

/-! ### Where the signals end (log 21) -/

/-- A path that is none takes no step. -/
theorem State.pathStep_none {s : State} (h : s.transport.path = none) : s.pathStep = none := by
  simp [State.pathStep, h]

/-- With no signal left and no step of a path, nothing follows. -/
theorem State.inner_none {s : State} (hn : s.scratch.notes = []) (hp : s.pathStep = none) :
    s.inner = none := by
  simp [State.inner, hn, hp]

/-- Where nothing follows, the pump is done. -/
theorem State.pump_done {s : State} (h : s.inner = none) : ∀ k, s.pump k = s
  | 0 => rfl
  | _ + 1 => by simp [State.pump, h]

/-- One signal or step of a path, then the rest. -/
theorem State.pump_step {s t : State} (h : s.inner = some t) (k : Nat) : s.pump (k + 1) = t.pump k := by
  simp [State.pump, h]

/-- Deck memory after an event is what it was, with the event's record writes made. -/
theorem State.finishWith_mem (last : State → State → State) (o s : State) :
    ∃ ws, (State.finishWith last o s).mem = Memory.apply o.losses o.mem ws ∧
      (State.finishWith last o s).interlock = spans ws :=
  ⟨(State.publish o false (last o (State.settleEvent o s))).scratch.writes, by simp [State.finishWith]⟩

/-- The rest of an event keeps deck memory in its canonical form. -/
theorem State.finishWith_memOk {last : State → State → State} {o s : State} (h : o.memOk = true) :
    (State.finishWith last o s).memOk = true := by
  obtain ⟨ws, hm, -⟩ := State.finishWith_mem last o s
  simp only [State.memOk, State.finishWith_losses, hm]
  exact Memory.apply_wf h ws

end Sys2Proof.Machine
end

