-- ==== Sys2Proof/Laws/Rows.lean ====
section
/-! SUPPORT. What a row comes to, once for every row of a shape: a request, a packet, an event, a sensor's
report. -/

-- One proof at a time: many at once wait on one another, each with a thread and its stack.
set_option Elab.async false

namespace Sys2Proof.Machine

/-! ### Events -/

/-- While the part is on, an event is its body and the rest of the event. -/
theorem State.event_on {s : State} (h : s.on = true) (f : State → State) :
    s.event f = State.finish s.afterWrites (f s.afterWrites) := by
  simp [State.event, State.eventWith, State.finish, h]

/-- While the part is off, an event changes nothing. -/
theorem State.event_off {s : State} (h : s.on = false) (f : State → State) : s.event f = s := by
  simp [State.event, State.eventWith, h]

/-- While the part is on, a sensor's report is an event. -/
theorem State.sensed_on {s : State} (h : s.on = true) (set f : State → State) :
    s.sensed set f = State.finish s.afterWrites (f s.afterWrites) := by
  simp [State.sensed, State.event_on h, h]

/-- While the part is off, a sensor's report changes the sensor. -/
theorem State.sensed_off {s : State} (h : s.on = false) (set f : State → State) :
    s.sensed set f = set s := by
  simp [State.sensed, h]

/-- An expiry that does nothing still ends the record writes before it and closes as an event. -/
theorem State.event_id {s : State} (h : s.on = true) {f : State → State}
    (hf : f s.afterWrites = s.afterWrites) :
    s.event f = State.finish s.afterWrites s.afterWrites := by
  rw [State.event_on h, hf]

/-! ### Requests -/

/-- A register write of a row goes through the port that takes it. -/
theorem State.throughPort_takes {s : State} (h : s.takesWrites = true) (f : State → State) :
    s.throughPort f = f s.through := by
  unfold State.takesWrites at h
  unfold State.throughPort State.through
  cases hm : s.port.mode <;> simp_all

@[simp] theorem State.through_on (s : State) : s.through.on = s.on := by
  unfold State.through; split <;> rfl

/-- A POST of a row whose act is the one its slot's kind asks for. -/
theorem State.request_eq {s : State} {w : Word} (h : s.takesWrites = true) {row : Request → Bool}
    {act : State → Fin 16 → Request → State}
    (hr : ∀ t n r, row r = true → act t n r = State.dispatch t n r) :
    s.request w row act
      = State.finishPost w (s.posted w) ((s.posted w).takePost w State.dispatch) := by
  have ho : s.on = true := by unfold State.takesWrites at h; simp_all
  have hact : (fun (t : State) n r => if row r then act t n r else t.dispatch n r) = State.dispatch := by
    funext t n r
    split
    · exact hr t n r ‹_›
    · rfl
  rw [State.request, State.throughPort_takes h, hact]
  unfold State.postWith State.eventWith State.finishPost State.posted
  exact if_pos ((State.through_on s).trans ho)

/-- A row that is a request, posted: what its slot asks for is done. -/
theorem exec_post {c : Instr} {w : Word} {s : State} (hc : c.post? = some w)
    (h : s.takesWrites = true) :
    exec c s = .next (State.finishPost w (s.posted w) ((s.posted w).takePost w State.dispatch)) := by
  cases c <;> simp only [Instr.post?, Option.some.injEq, reduceCtorEq] at hc
  all_goals
    subst hc
    refine congrArg Host.Outcome.next (State.request_eq h fun t n r hr => ?_)
  all_goals try
    first
    | (simp only [beq_iff_eq] at hr; simp [State.dispatch, hr])
    | (simp only [Bool.and_eq_true, beq_iff_eq] at hr
       simp [State.dispatch, State.track, State.powerRequest, hr.1, hr.2])
  simp only [Bool.or_eq_true, beq_iff_eq, decide_eq_true_eq] at hr
  unfold State.dispatch
  split <;> first | rfl | (exfalso; omega)

/-- R184: where the POST takes its slot, the request is passed on by its kind. -/
theorem exec_serves {c : Instr} {w : Word} {s : State} {n : Fin 16} {r : Request} (hc : c.post? = some w)
    (h : s.serves w n r) :
    exec c s = .next (State.finishPost w (s.posted w) ((s.taken w n r).dispatch n r)) := by
  obtain ⟨h1, h2, h3⟩ := h
  rw [exec_post hc h1]
  simp [State.takePost, h2, h3, State.taken]

/-- A packet, whatever its row. -/
theorem exec_packet {c : Instr} {p : Packet} (hc : c.packet? = some p) (s : State) :
    exec c s = .next (s.event (·.packet p)) := by
  cases c <;> simp only [Instr.packet?, Option.some.injEq, reduceCtorEq] at hc <;> subst hc <;> rfl

end Sys2Proof.Machine
end

