-- ==== Sys2Proof/Laws/Calm.lean ====
section
/-! SUPPORT. The rest of an event that leaves the part at rest: what may still follow of the state, and what
the publication keeps of the presenter. -/

-- One proof at a time: many at once wait on one another, each with a thread and its stack.
set_option Elab.async false

namespace Sys2Proof.Machine

/-- R66: at most the open reel revolutions go. -/
theorem State.syncFactor_eq (o s : State) : ∃ r, State.syncFactor o s = { s with remaining := r } ∧ (r = s.remaining ∨ r = s.remaining.void) := by
  unfold State.syncFactor; split
  · exact ⟨_, rfl, Or.inl rfl⟩
  · exact ⟨_, rfl, Or.inr rfl⟩
/-- R23: only the idle timer changes. -/
theorem State.syncIdle_eq (old s : State) :
    ∃ i, State.syncIdle old s = { s with transport := { s.transport with idle := i } } := by
  unfold State.syncIdle; (repeat' split) <;> exact ⟨_, rfl⟩
/-- R43: only the auto search and its offset change. -/
theorem Servo.searchSync_eq (v : Servo) (b : Bool) : ∃ a t, v.searchSync b = { v with auto := a, tracking := t } := by
  unfold Servo.searchSync Servo.beginSearch Servo.endSearch; (repeat' split) <;> exact ⟨_, _, rfl⟩

/-- What may still change of a state at rest: the idle timer, the auto search with its offset, the drum's
reference, the open reel revolutions. -/
def State.Calm (x y : State) : Prop :=
  ∃ r i v, y = { x with remaining := r, transport := { x.transport with idle := i }, servo := v } ∧
    (r = x.remaining ∨ r = x.remaining.void) ∧
    ∃ a t d, v = { x.servo with auto := a, tracking := t, drumRef := d }

/-- R167, R168: needs and powers that already stand as asked stay. -/
theorem State.syncNeeds_calm {s : State} (h : s.settledPower = true) : s.syncNeeds = s := by
  simp only [State.settledPower, Bool.and_eq_true, beq_iff_eq] at h
  obtain ⟨⟨h1, h2⟩, h3⟩ := h
  have e : ({ s with power.transportNeed := s.transportNeeds } : State) = s := by rw [← h2]
  have e2 : s.syncPower = s := by
    simp only [Power.followsNeeds, Bool.or_eq_true, beq_iff_eq] at h1
    unfold State.syncPower
    split
    · rfl
    · rename_i hq; rw [hq] at h1; simp at h1; simp [← h1]
    · rename_i hq; rw [hq] at h1; simp at h1; simp [← h1]
  unfold State.syncNeeds
  rw [e, e2]
  unfold State.syncTunerPower State.powerTuner
  rw [h3]
  by_cases hs : s.tuner.signal = .unpowered <;> simp [hs]

/-- What follows a state at rest. -/
theorem State.sync_calm (o x : State) (h : x.settledPower = true) :
    State.Calm x (State.sync o x) := by
  obtain ⟨r, hr, hr'⟩ := State.syncFactor_eq o x
  unfold State.sync
  rw [hr]
  obtain ⟨a, t, hv⟩ := Servo.searchSync_eq x.servo (x.transport.mode = .playing)
  have h2 : ({ x with remaining := r } : State).syncServo = { x with remaining := r, servo := { x.servo with auto := a, tracking := t, drumRef := ({ x with remaining := r } : State).drumReference } } := by
    unfold State.syncServo
    simp only [hv]
  rw [h2]
  obtain ⟨i, hi⟩ := State.syncIdle_eq o { x with remaining := r, servo := { x.servo with auto := a, tracking := t, drumRef := ({ x with remaining := r } : State).drumReference } }
  rw [hi]
  rw [State.syncNeeds_calm]
  · exact ⟨r, i, _, rfl, hr', a, t, _, rfl⟩
  · simpa [State.settledPower, State.transportNeeds, State.tunerWanted] using h

/-- Two such changes make one. -/
theorem State.Calm.trans {x y z : State} (h : State.Calm x y) (h' : State.Calm y z) : State.Calm x z := by
  obtain ⟨r, i, v, rfl, hr, a, t, d, rfl⟩ := h
  obtain ⟨r', i', v', rfl, hr', a', t', d', rfl⟩ := h'
  refine ⟨r', i', _, rfl, ?_, a', t', d', rfl⟩
  rcases hr with rfl | rfl <;> rcases hr' with rfl | rfl <;> simp [Remaining.void]

/-- Such a change leaves the state at rest. -/
theorem State.Calm.keeps {x y : State} (h : State.Calm x y) (hn : x.scratch.notes = []) (hp : x.transport.path = none)
   (hs : x.settledPower = true) : y.scratch.notes = [] ∧ y.transport.path = none ∧ y.settledPower = true := by
  obtain ⟨r, i, v, rfl, hr, a, t, d, rfl⟩ := h
  exact ⟨hn, hp, by simpa [State.settledPower, State.transportNeeds, State.tunerWanted] using hs⟩

/-- An event among the blocks that begins at rest. -/
theorem State.settleEvent_calm (o x : State) (hn : x.scratch.notes = []) (hp : x.transport.path = none)
   (hs : x.settledPower = true) : State.Calm x (State.settleEvent o x) := by
  unfold State.settleEvent
  dsimp only
  rw [State.pump_done (State.inner_none hn (State.pathStep_none hp))]
  have h1 := State.sync_calm o x hs
  obtain ⟨a, b, c⟩ := State.Calm.keeps h1 hn hp hs
  rw [State.pump_done (State.inner_none a (State.pathStep_none b))]
  exact State.Calm.trans h1 (State.sync_calm o _ c)

/-- R199: an insertion adds its cause and keeps the others. -/
theorem Cause.insert_mem (c d : Cause) (l : List Cause) : d ∈ Cause.insert c l ↔ d = c ∨ d ∈ l := by
  induction l with
  | nil => simp [Cause.insert]
  | cons e l ih =>
    unfold Cause.insert
    split
    · subst_vars; simp
    · split
      · simp
      · simp only [List.mem_cons, ih]
        exact or_left_comm

/-- R199: a STATUS request keeps the causes pending. -/
theorem State.askStatus_causes (s : State) (g : Fin 7) : ∀ c ∈ s.presenter.pending, c ∈ (s.askStatus g).presenter.pending := by
  intro c hc
  unfold State.askStatus
  split
  · simp [Cause.insert_mem, hc]
  · exact hc
/-- R199: a STATUS request keeps CL and the throttle timer. -/
theorem State.askStatus_rest (s : State) (g : Fin 7) : (s.askStatus g).presenter.cl = s.presenter.cl ∧ (s.askStatus g).presenter.throttle = s.presenter.throttle := by
  unfold State.askStatus; split <;> simp

/-- R180: writing a group keeps the causes pending, CL and the throttle timer. -/
theorem State.publishGroup_presenter (o : State) (f : Bool) (s : State) (g : Fin 7) :
   (∀ c ∈ s.presenter.pending, c ∈ (State.publishGroup o f s g).presenter.pending) ∧ (State.publishGroup o f s g).presenter.cl = s.presenter.cl ∧ (State.publishGroup o f s g).presenter.throttle = s.presenter.throttle := by
  unfold State.publishGroup
  dsimp only
  repeat' split
  · exact ⟨fun c h => h, rfl, rfl⟩
  · refine ⟨fun c h => State.askStatus_causes _ _ c h, ?_⟩
    have := State.askStatus_rest (s.writeRecord (Config.groupSpan g.val).1 (s.group g.val)) g
    simpa using this
  · exact ⟨fun c h => h, rfl, rfl⟩

/-- R180: the publication keeps the causes pending, CL and the throttle timer. -/
theorem State.publish_presenter_keeps (o : State) (f : Bool) (s : State) :
   (∀ c ∈ s.presenter.pending, c ∈ (State.publish o f s).presenter.pending) ∧ (State.publish o f s).presenter.cl = s.presenter.cl ∧ (State.publish o f s).presenter.throttle = s.presenter.throttle := by
  have key : ∀ (l : List (Fin 7)) (s : State),   (∀ c ∈ s.presenter.pending, c ∈ (l.foldl (State.publishGroup o f) s).presenter.pending) ∧ (l.foldl (State.publishGroup o f) s).presenter.cl = s.presenter.cl ∧ (l.foldl (State.publishGroup o f) s).presenter.throttle = s.presenter.throttle := by
    intro l
    induction l with
    | nil => intro s; exact ⟨fun c h => h, rfl, rfl⟩
    | cons g l ih =>
      intro s
      obtain ⟨a, b, c⟩ := State.publishGroup_presenter o f s g
      obtain ⟨a', b', c'⟩ := ih (State.publishGroup o f s g)
      exact ⟨fun x h => a' x (a x h), b'.trans b, c'.trans c⟩
  unfold State.publish
  dsimp only
  have := key groupNumbers (State.publishLabel o f (State.publishMap o f (entryNumbers.foldl (State.publishRun o f) (entryNumbers.foldl (State.publishEntry o f) s))))
  simpa [foldl_keeps (State.publishRun o f) State.presenter (State.publishRun_presenter o f),
    foldl_keeps (State.publishEntry o f) State.presenter (State.publishEntry_presenter o f)] using this

end Sys2Proof.Machine
end

