-- ==== Sys2Proof/Laws/Serial.lean ====
section
/-! SUPPORT. The fields of a serial frame: each reads back as it was put in (R198). What a bus cycle of the parallel
port comes to, once it is known which access its strobes pick (R197), and a register read with PARALLEL latched. -/
namespace Sys2Proof

/-! ### Serial frames -/

@[simp] theorem frameCommand_append (command : Byte) (addr data : Word) :
    frameCommand (command ++ addr ++ data) = command := by
  apply BitVec.eq_of_getLsbD_eq
  intro i hi
  simp only [frameCommand, BitVec.getLsbD_extractLsb', BitVec.getLsbD_append, hi, decide_true, Bool.true_and]
  rw [if_neg (by omega), if_neg (by omega)]
  congr 1
  omega

@[simp] theorem frameAddress_append (command : Byte) (addr data : Word) :
    frameAddress (command ++ addr ++ data) = addr := by
  apply BitVec.eq_of_getLsbD_eq
  intro i hi
  simp only [frameAddress, BitVec.getLsbD_extractLsb', BitVec.getLsbD_append, hi, decide_true, Bool.true_and]
  rw [if_neg (by omega), if_pos (by omega)]
  congr 1
  omega

@[simp] theorem frameData_append (command : Byte) (addr data : Word) :
    frameData (command ++ addr ++ data) = data := by
  apply BitVec.eq_of_getLsbD_eq
  intro i hi
  simp only [frameData, BitVec.getLsbD_extractLsb', BitVec.getLsbD_append, hi, decide_true, Bool.true_and]
  rw [if_pos (by omega)]
  congr 1
  omega

/-! ### Parallel bus cycles -/

/-- Strobes that pick no access spell no command. -/
theorem ParallelPins.cycle_ignored {p : ParallelPins} (h : p.strobe = none) (during : Bool) :
    p.cycle during = none := by simp [ParallelPins.cycle, h]

/-- An access to deck memory. -/
theorem ParallelPins.cycle_memory {p : ParallelPins} {x : Strobe} (h : p.strobe = some x)
    (hs : p.registerSelect = false) (during : Bool) : p.cycle during = some (p.memoryCycle during x) := by
  simp [ParallelPins.cycle, h, hs]

/-- An access to a register. -/
theorem ParallelPins.cycle_register {p : ParallelPins} {x : Strobe} (h : p.strobe = some x)
    (hs : p.registerSelect = true) (during : Bool) : p.cycle during = some (p.registerCycle x) := by
  simp [ParallelPins.cycle, h, hs]

namespace Machine

/-- A cycle that spells no command leaves the state. -/
theorem State.busCycle_none {p : ParallelPins} {during : Bool} (h : p.cycle during = none) (s : State) :
    s.busCycle p during = s := by simp [State.busCycle, h]

/-- A cycle that spells a command puts it on the queue. -/
theorem State.busCycle_some {p : ParallelPins} {during : Bool} {c : Instr} (h : p.cycle during = some c) (s : State) :
    s.busCycle p during = { s with pending := s.pending ++ [c] } := by simp [State.busCycle, h]

/-- A register read with PARALLEL latched. -/
theorem State.portRead_parallel {s : State} (ho : s.on = true) (hm : s.port.mode = .parallel) (reg : Nat) :
    s.portRead reg = { s with port.dataOut := some (s.registerWord reg) }.registerTaken reg := by
  simp [State.portRead, ho, hm]

/-- A register write with PARALLEL latched. -/
theorem State.throughPort_parallel {s : State} (ho : s.on = true) (hm : s.port.mode = .parallel)
    (write : State → State) : s.throughPort write = write s := by
  simp [State.throughPort, ho, hm]

end Machine

end Sys2Proof
end

