-- ==== Sys2Proof/Tests/Slice0.lean ====
section
/-! SUPPORT. The model's own tests: the well-formedness check against an ill-formed term each, one step of a few
rows, and for every statement a state and operands that meet its hypotheses together, at the values where its
clauses meet. -/

-- One proof at a time: many at once wait on one another, each with a thread and its stack.
set_option Elab.async false

namespace Sys2Proof.Tests
open Sys2Proof Sys2Proof.Machine

/-! ### States -/

/-- A request with its arguments filled up to twelve bytes. -/
def req (kind : Nat) (args : List Byte) : Request := { kind := kind, args := padTo 12 args }

/-- Slot 0 holds the request, POSTED. -/
def offer (kind : Nat) (args : List Byte) (s : State) : State :=
  { s with mem := Memory.writeBytes s.losses s.mem 0x0100 ([1, byteOf kind] ++ padTo 12 args) }

/-- Bytes of deck memory. -/
def holds (a : Nat) (bs : List Byte) (s : State) : State :=
  { s with mem := Memory.writeBytes s.losses s.mem a bs }

/-- A cassette in LOADED at rest, in QUIET. -/
def loaded : State := { State.reset with
  transport.mode := .loaded, sensors.cam := .at .housed, sensors.tabPresent := true
  sensors.switchClosed := true }

/-- ACTIVE for the host, with the mechanism supply READY. -/
def active (s : State) : State := { s with
  power := { s.power with state := .active, hostNeed := true, supply := .ready, wake := .hostOn }
  tuner.owner := .view, tuner.signal := .noLock, decoder.powered := true }

/-- A mode with the tape at DRIVE, the need of the transport standing. -/
def threaded (m : Mode) : State :=
  let s := active loaded
  { s with transport.mode := m, sensors.cam := .at .drive, power.transportNeed := true }

/-- The capstan pulls the tape, or the reels are driven. -/
def running (m : Mode) : State :=
  if m = .windFwd ∨ m = .windRev then
    { threaded m with servo.reel := if m = .windFwd then .forward else .reverse }
  else { threaded m with servo.cap := .phase, servo.capTarget := .play, servo.capRef := .control }

/-- A manual recording with minutes left. -/
def recordingFor (minutes : Nat) : State := { running .recording with
  transport.owner := .manual, transport.countdown := some ⟨minutes, 60 * Config.hz⟩
  tuner.owner := .record }

/-- Tuned to divisor 2000 with a signal. -/
def tuned (g : Signal) : State := { active loaded with
  tuner.base := some ⟨2000, 0, 0, false⟩, tuner.signal := g, tuner.lockLimit := some 3277
  tuner.selection := .direct 2000 }

/-- A request of PLAY in flight in slot 2, on the TRANSPORT lane. -/
def inFlight (s : State) : State := { s with
  requests := { s.requests with
    slots := s.requests.slots.set 2 (some (req 1 [])), transportLane := some 2 } }

/-- The serial port latched. -/
def serial : State := { State.reset with port.mode := .serial }

/-- A record write under way over a span. -/
def writing (a n : Nat) (s : State) : State := { s with interlock := [(a, n)] }

/-- In RETAIN. -/
def retained : State := { State.reset with power := State.reset.power.fail }

/-- What a row leaves; the state before where it stops. -/
def after (c : Instr) (s : State) : State :=
  match exec c s with
  | .next t => t
  | _ => s

/-! ### Well-formedness -/

theorem test_claim_take_needs_its_action : (Instr.claimTake 0x21).wellFormed = false := by decide
theorem test_claim_give_needs_its_action : (Instr.claimGive 0x11).wellFormed = false := by decide
theorem test_register_write_other_needs_a_high_number :
    (Instr.registerWriteOther 4 false 0).wellFormed = false
      ∧ (Instr.registerWriteOther 5 false 0).wellFormed = true
      ∧ (Instr.registerWriteOther 0 true 0).wellFormed = true := by decide
theorem test_serial_addresses_name_bytes :
    (Instr.memRead 0x4000 false).wellFormed = false ∧ (Instr.memWrite 0x4000 0 false).wellFormed = false
      ∧ (Instr.memRead 0x3FFF false).wellFormed = true := by decide
theorem test_unknown_command_has_no_code_of_the_five :
    (Instr.serialUnknownCommand 5).wellFormed = false ∧ (Instr.serialUnknownCommand 6).wellFormed = true
      ∧ (Instr.serialUnknownCommand 0).wellFormed = true := by decide
theorem test_a_cut_frame_is_short :
    (Instr.serialFrameCut 3 0 40 false).wellFormed = false
      ∧ (Instr.serialFrameCut 3 0 39 false).wellFormed = true := by decide

/-- A packet of a header, its other bytes 0, every byte with odd parity. -/
def packet (header : BitVec 9) : Packet := ⟨header, 0x100, 0x100, 0x100, 0x100, 0x100⟩

theorem test_packets_have_the_header_of_their_row :
    (Instr.stationPacket (packet 0x081)).wellFormed = false
      ∧ (Instr.timePacket (packet 0x041)).wellFormed = false
      ∧ (Instr.labelFirst (packet 0x0F1)).wellFormed = false
      ∧ (Instr.labelLast (packet 0x0D1)).wellFormed = false
      ∧ (Instr.labelOtherFragment (packet 0x0D1)).wellFormed = false
      ∧ (Instr.unassignedPacket (packet 0x041)).wellFormed = false
      ∧ (Instr.labelFirst (packet 0x0D1)).wellFormed = true := by decide

/-! ### One step of a few rows -/

theorem test_play_in_quiet_starts_the_supply :
    let t := after (.play 0) (offer 1 [] loaded)
    t.power.state = .active ∧ t.power.wake = .transportRequest ∧ t.power.supply = .settling ∧
      t.requests.transportLane = some 0 ∧ t.bytes 0x0100 2 = [2, 1] ∧ t.transport.mode = .loaded := by
  decide +kernel

theorem test_play_with_the_supply_begins_to_thread :
    let t := after (.play 0) (offer 1 [] (active loaded))
    t.transport.mode = .threading ∧ t.sensors.cam = .between .housed ∧
      t.transport.camMove = some ⟨.half, true, Config.camLimit⟩ := by decide +kernel

theorem test_play_without_a_cassette_is_refused :
    (after (.play 0) (offer 1 [] State.reset)).bytes 0x0100 2 = [3, 1] ∧
      (after (.play 0) (offer 1 [] State.reset)).bytes 0x010E 2 = [2, 1] := by decide +kernel

theorem test_set_clock_writes_the_clock_group :
    let t := after (.setClock 0) (offer 13 [0xE8, 0x07, 2, 29, 23, 59, 58] State.reset)
    t.clock.state = .host ∧ t.bytes 0x00C0 7 = [0xE8, 0x07, 2, 29, 23, 59, 58] := by decide +kernel

theorem test_power_on_and_off :
    let on := after (.powerOn 0) (offer 16 [1] State.reset)
    on.power.state = .active ∧ on.tuner.owner = .view ∧
      (after (.powerOff 0) (offer 16 [0] (active State.reset))).power.state = .quiet := by decide +kernel

theorem test_a_select_tunes :
    let t := after (.select 0) (offer 10 [3, 0, 0xD0, 0x07] (active loaded))
    t.tuner.base = some ⟨2000, 0, 0, false⟩ ∧ t.tuner.signal = .acquiring ∧ t.tuner.band = .low := by
  decide +kernel

theorem test_an_ignored_post_raises_port :
    ⟨.port, 16⟩ ∈ (after (.badKind 16) State.reset).presenter.pending := by decide +kernel

theorem test_attention_takes_the_power_cause_first :
    (after .attentionRead State.reset).port.dataOut = some 0x002F ∧
      (after .attentionRead State.reset).presenter.cl = 2 := by decide +kernel

theorem test_the_word_of_ident :
    State.reset.identWord = 0x0420 ∧ (after (.identWrite 1) State.reset).identWord = 0x0801 := by
  decide +kernel

theorem test_the_mains_fail_warning_keeps_the_calendar :
    let t := after (.mainsFailWarning false) { State.reset with clock.calendar := ⟨15000, 40000, 7⟩ }
    t.clock.calendar = ⟨15000, 40000, 7⟩ ∧ t.power.state = .retain ∧ t.power.kind = .warm := by decide +kernel

theorem test_dates : dayNumber ⟨1980, 1, 1⟩ = 0 ∧ dayNumber ⟨2079, 12, 31⟩ = Config.lastDay ∧
    civilOf 15000 = ⟨2021, 1, 25⟩ ∧ weekdayOf 0 = 1 := by decide +kernel

/-! ### Hypotheses of the statements: the step, invariants, the rest of an event -/

theorem test_StepRunsTheFrontCommand_hyps :
    ({ State.reset with pending := [.status] } : State).pending = Instr.status :: [] := rfl

/-- A second that is recorded for a program ends with the next cycle. -/
def recordingSecond : State :=
  let s := threaded .recording
  { s with timeBase := 32767, transport.owner := .program 0, transport.control := some 0 }

theorem test_StepOnAnEmptyQueue_hyps :
    (State.reset.pending = [] ∧ State.reset.dueCommands = [] ∧ State.reset.countsSecond = false) ∧
      (let s := { State.reset with power.settle := some 0 }; s.pending = [] ∧ s.dueCommands = [.settleExpiry]) ∧
      (recordingSecond.pending = [] ∧ recordingSecond.dueCommands = [] ∧ recordingSecond.on = true ∧
        recordingSecond.countsSecond = true ∧ recordingSecond.transport.owner = .program 0) ∧
      (let s := { recordingSecond with power.lineAsserted := true }
       s.pending = [] ∧ s.dueCommands = [] ∧ s.countsSecond = true ∧ s.on = false) := by decide +kernel

theorem test_StepKeeps_hyps :
    (State.reset.memOk = true ∧ State.reset.power.followsNeeds = true ∧ State.reset.idleOk = true ∧
      State.reset.between = true) ∧ step State.reset = .next State.reset.idle := ⟨by decide +kernel, rfl⟩

theorem test_EveryCommandCompletes_hyps :
    (loaded.on = true ∧ retained.on = false ∧ (Instr.play 0).post? = some 0 ∧
      (Instr.stationPacket (packet 0x041)).packet? = some (packet 0x041)) ∧
    (serial.on = true ∧ serial.port.mode = .serial ∧ (serial.beginAccess false).port.serial = none ∧
      0x4000 ≤ (0x4000 : Word).toNat) := by decide +kernel

/-- A serial read above deck memory goes on, and a second one draws another free word. -/
theorem test_a_read_above_deck_memory_goes_on :
    (after (.memRead 0x4000 false) serial).draws = 1 ∧
      (after (.memRead 0x4000 false) serial).port.lastCommand = 1 ∧
      (after (.memWrite 0xFFFE 5 false) serial).mem = [] := by decide +kernel

theorem test_TheRestOfACalmEvent_hyps :
    loaded.scratch.notes = [] ∧ loaded.transport.path = none ∧ loaded.settledPower = true := by decide +kernel

theorem test_EventsWriteOnlyTheirRecords_hyps :
    ∀ span ∈ (State.finishWith (fun _ t => t) loaded { loaded with sensors.dew := true }).interlock,
      ¬(span.1 ≤ 0x0050 ∧ 0x0050 < span.1 + span.2) := by decide +kernel

theorem test_ChangedGroupsArePublished_hyps :
    (State.finishWith (fun _ t => t) loaded { loaded with sensors.dew := true }).group 0
        ≠ loaded.group 0 ∧
      (State.finishWith (fun _ t => t) loaded { loaded with power.wake := .cassetteIn }).group 5
        ≠ loaded.group 5 ∧
      ∀ g ∈ [Gate.opened, .closed 9 false],
        let s := { loaded with sensors.dew := true, presenter.gates := loaded.presenter.gates.set 0 g }
        (State.finishWith (fun _ t => t) loaded s).group 0 ≠ loaded.group 0 ∧
          (State.settleEvent loaded s).presenter.gates[(0 : Fin 7)] = g := by decide +kernel

/-! ### Ports and registers -/

theorem test_ParallelAccessesAreServed_hyps :
    (State.reset.on = true ∧ State.reset.port.mode = .parallel ∧
      (State.reset.beginAccess false).port.held = none) ∧
      (State.reset.beginAccess false).covered (2 * (0x1FFF : BitVec 13).toNat) = false ∧
      (State.reset.beginAccess false).covered (2 * (0x80 : BitVec 13).toNat) = false ∧
      isSlotState (2 * (0x80 : BitVec 13).toNat) = true ∧ 1 < (lowByte 2).toNat := by decide +kernel

/-- The pins of a read, of a word write and of the two byte writes, with register-select or not. -/
def pins (select : Bool) (addr : BitVec 13) (oe high low : Bool) : ParallelPins :=
  ⟨true, select, addr, oe, high, low, 0xBEEF⟩

theorem test_parallel_cycles :
    (pins false 0x82 true false false).cycle true = some (.parallelMemoryRead 0x82 true) ∧
      (pins false 0x82 false true true).cycle false = some (.parallelWordWrite 0x82 0xBEEF false) ∧
      (pins false 0x82 false true false).cycle false = some (.parallelByteWrite 0x82 true 0xBE false) ∧
      (pins false 0x82 false false true).cycle false = some (.parallelByteWrite 0x82 false 0xEF false) ∧
      (pins false 0x82 true true false).cycle false = none ∧ (pins false 0x82 false false false).cycle false = none ∧
      { pins false 0x82 true false false with chipEnable := false }.cycle false = none ∧
      (pins true 0x82 true false false).cycle false = some (.regRead 2) ∧
      (pins true 0x0B true false false).cycle false = some .attentionRead ∧
      (pins true 1 false true true).cycle false = some (.regWrite 1 0xBEEF) ∧
      (pins true 4 false true false).cycle false = some (.registerWriteOther 4 true 0xBEEF) ∧
      (State.reset.busCycle (pins true 0 true false false) false).pending = [.regRead 0] := by decide +kernel

theorem test_parallel_registers_hyps :
    State.reset.on = true ∧ State.reset.port.mode = .parallel ∧ State.reset.pending = [] ∧ (4 : Word) ≠ 3 ∧
      5 ≤ (5 : Word).toNat ∧ (after (.regRead 0) State.reset).port.dataOut = some 0x0420 ∧
      (after (.regRead 3) State.reset).port.dataOut = some 0x002F ∧
      (after (.regRead 3) State.reset).presenter.cl = 2 ∧
      (after (.regWrite 4 5) State.reset).presenter.cl = 5 := by decide +kernel

theorem test_CoveredAccessesWait_hyps :
    let s := writing 0x41 2 State.reset
    s.on = true ∧ s.port.mode = .parallel ∧ s.port.held = none ∧ s.port.serial = none ∧
      s.covered (2 * (0x20 : BitVec 13).toNat) = true ∧ s.covered (2 * (0x21 : BitVec 13).toNat) = true ∧
      s.covered (2 * (0x22 : BitVec 13).toNat) = false := by decide +kernel

/-- A serial access pending, to a slot's state byte, under a record being written. -/
def waitingAccess (w : Option Word) : State :=
  { writing 0x0100 28 serial with port.serial := some ⟨0x0100, w, none⟩ }

theorem test_pending_serial_accesses_hyps (w : Option Word) :
    (waitingAccess w).on = true ∧ (waitingAccess w).port.held = none ∧
      (waitingAccess w).port.serial = some ⟨0x0100, w, none⟩ :=
  have h : serial.on = true ∧ serial.port.held = none := by decide +kernel
  ⟨h.1, h.2, rfl⟩

theorem test_a_pending_write_lands :
    (after .heldAccessServed (waitingAccess (some 0x0501))).mem = [(0x0100, 1), (0x0101, 5)] ∧
      (after .heldAccessServed (waitingAccess (some 2))).mem = [] := by decide +kernel

theorem test_SerialMemoryAccesses_hyps :
    let s := writing 0x40 16 serial
    s.on = true ∧ s.port.mode = .serial ∧ (s.beginAccess true).port.serial = none ∧
      (0x3FFF : Word).toNat < 0x4000 ∧
      (s.beginAccess true).covered ((0x3FFF : Word).toNat / 2 * 2) = false ∧
      (s.beginAccess true).covered ((0x4F : Word).toNat / 2 * 2) = true ∧
      isSlotState ((0x3FFF : Word).toNat / 2 * 2) = false := by decide +kernel

/-- A serial access pending, or served. -/
def pendingAccess (served : Option Word) : State := { serial with port.serial := some ⟨0x40, none, served⟩ }

theorem test_SerialStatusAndOtherFrames_hyps :
    (serial.on = true ∧ serial.port.mode = .serial ∧ serial.port.serial = none) ∧
      ((pendingAccess none).on = true ∧ (pendingAccess none).port.mode = .serial ∧
        (pendingAccess none).port.serial = some ⟨0x40, none, none⟩ ∧
        (pendingAccess (some 7)).port.serial = some ⟨0x40, none, some 7⟩) ∧
      (Instr.play 0).post? = some 0 ∧ serialCommand 6 = false ∧ serialCommand 0 = false ∧
      (∀ clocks ∈ [22, 23, 24, 39], clocks < 40) := by decide +kernel

theorem test_serial_frames :
    serialBits 0x0100040000 40 true = .memRead 4 true ∧ serialBits 0x020005BEEF 40 false = .memWrite 5 0xBEEF false ∧
      serialBits 0x0300030000 40 false = .regRead 3 ∧ serialBits 0x0400010012 40 false = .regWrite 1 0x12 ∧
      serialBits 0x05FFFFFFFF 40 false = .status ∧ serialBits 0x0600000000 40 false = .serialUnknownCommand 6 ∧
      serialBits 0x0000000000 40 false = .serialUnknownCommand 0 ∧
      serialBits 0x0300030000 39 true = .serialFrameCut 3 3 39 true ∧
      (Instr.memRead 4 true).frame? = some 0x0100040000 ∧ (Instr.memRead 4 true).wellFormed = true ∧
      (⟨3, true, 0x0901⟩ : Reply).bits = 0x0300010901 ∧ serial.pending = [] := by decide +kernel

theorem test_SerialRegisterFrames_hyps :
    serial.on = true ∧ serial.port.mode = .serial ∧ serial.port.serial = none ∧
      (4 : Word) ≠ 3 ∧ 5 ≤ (5 : Word).toNat ∧ serial.port.selector = false ∧
      (let s := { serial with port.selector := true }
       s.port.selector = true ∧ s.registerWord 0 = 0x0901) := by decide +kernel

/-- A STATUS gate of group 6 in a condition. -/
def gated (g : Gate) : State :=
  { State.reset with presenter.gates := State.reset.presenter.gates.set 6 g }

theorem test_RegisterWritesAndTimers_hyps :
    State.reset.takesWrites = true ∧ serial.takesWrites = true ∧ 1 < (2 : Word).toNat ∧
      5 ≤ (5 : BitVec 3).toNat ∧ (gated .opened).on = true ∧ (gated .opened).presenter.gates[(6 : Fin 7)] = .opened ∧
      (gated (.closed 9 false)).presenter.gates[(6 : Fin 7)] = .closed 9 false ∧
      (gated (.closed 9 true)).presenter.gates[(6 : Fin 7)] = .closed 9 true ∧
      (let s := { State.reset with presenter.interval := 0 }; s.takesWrites = true) := by decide +kernel

theorem test_AttentionRead_hyps :
    State.reset.on = true ∧ State.reset.port.serial = none ∧ serial.port.serial = none ∧
      State.reset.presenter.favoured = some ⟨.power, 0⟩ ∧
      (let s := { State.reset with presenter.cl := 2 }
       s.on = true ∧ ∀ c ∈ s.presenter.pending, s.presenter.cl.toNat ≤ c.kind.level) := by decide +kernel

theorem test_lines_hyps :
    State.reset.attentionLine = true ∧ retained.on = false ∧
      (after (.attentionWrite 15) State.reset).attentionLine = false ∧
      State.reset.lampLit 3 = false ∧ loaded.lampLit 3 = true ∧
      (let s := { loaded with transport.mode := .recordPause, timeBase := 16384 }
       s.on = true ∧ s.lampLit 1 = false) := by decide +kernel

theorem test_RaisingKeepsTheOrderOfFavour_hyps :
    State.reset.presenter.pending.Pairwise (fun x y => x.before y = true) ∧
      State.reset.presenter.favoured = some ⟨.power, 0⟩ ∧
      (CauseKind.status.level < State.reset.presenter.cl.toNat) := by decide +kernel

/-- The host holds the sections and the engine holds PRESETS. -/
def held : State := { State.reset with
  claims := ⟨⟨true, true, true⟩, ⟨false, true, false⟩⟩, tuner.owner := .none }

theorem test_ClaimWrites_hyps :
    State.reset.takesWrites = true ∧ held.takesWrites = true ∧
      claimAction 0x10 = 1 ∧ (0x10 : Word).toNat % 4 = 0 ∧ claimAction 0x12 = 1 ∧ sectionOf 0x12 = some .presets ∧
      held.claims.engine.get .presets = true ∧ State.reset.claims.engine.get .presets = false ∧
      claimAction 0x20 = 2 ∧ (0x20 : Word).toNat % 4 = 0 ∧ claimAction 0x21 = 2 ∧
      sectionOf 0x21 = some .programs ∧ sectionOf 0x22 = some .presets ∧ sectionOf 0x23 = some .settings ∧
      State.reset.claims.host.get .programs = false ∧ held.claims.host.get .programs = true ∧
      held.claims.host.get .presets = true ∧ held.claims.host.get .settings = true ∧
      (∀ n, held.through.afterWrites.run n = none) ∧ held.through.afterWrites.tuner.owner ≠ .view := by
  decide +kernel

/-- The host holds PRESETS in VIEW with preset 1 selected, in use or not. -/
def viewing (flags : Byte) (b : Option TunedBase) : State :=
  let s := holds 0x0500 ([flags, 0] ++ le16 2000) (active loaded)
  { s with claims.host.presets := true, tuner.selection := .preset 1, tuner.base := b, tuner.signal := .locked }

theorem test_the_reread_hyps :
    (∀ x ∈ [((0 : Byte), none), (0, some ⟨2000, 0, 1, false⟩), (1, some ⟨2000, 0, 1, false⟩),
        (1, some (⟨3000, 0, 1, false⟩ : TunedBase)), (3, none)],
      let o := (viewing x.1 x.2).through.afterWrites
      (viewing x.1 x.2).takesWrites = true ∧ o.tuner.selection = .preset 1 ∧ o.tuner.owner = .view ∧
        (o.preset 1).inUse = decide (x.1 ≠ 0)) ∧
    (after (.claimGive 0x22) (viewing 0 none)).tuner.selection = .direct 1343 ∧
    (after (.claimGive 0x22) (viewing 3 none)).tuner.aft = .running := by decide +kernel

/-! ### Requests -/

theorem test_PostsTakeTheirSlot_hyps :
    let s := offer 1 [] State.reset
    (Instr.play 0).post? = some 0 ∧ (Instr.badKind 16).post? = some 16 ∧ s.takesWrites = true ∧
      (s.posted 0).byteNat (Config.slotBase 0) = 1 ∧ (s.posted 0).requests.slots[(0 : Fin 16)] = none ∧
      (∀ n : Fin 16, n.val = (16 : Word).toNat →
        (s.posted 16).byteNat (Config.slotBase n.val) ≠ 1 ∨ (s.posted 16).requests.slots[n].isSome = true) ∧
      (∀ n : Fin 16, n.val = (15 : Word).toNat →
        (s.posted 15).byteNat (Config.slotBase n.val) ≠ 1 ∨ (s.posted 15).requests.slots[n].isSome = true) := by
  decide +kernel

theorem test_ARequestEndsInItsSlot_hyps :
    let s := { State.reset with requests.slots := State.reset.requests.slots.set 15 (some (req 1 [])) }
    s.requests.slots[(15 : Fin 16)] = some (req 1 []) ∧ (req 1 []).args.length = 12 ∧
      (zeros 12).length ≤ 12 := by decide +kernel

/-- A cassette at DRIVE in PLAYING at counter 100. -/
def playing : State := { threaded .playing with position.counter := 100 }

theorem test_RefusedRequests_hyps :
    ((offer 1 [] State.reset).serves 0 0 (req 1 []) ∧ (req 1 []).kind = TransportKind.play.code ∧
      ((offer 1 [] State.reset).taken 0 0 (req 1 [])).checkTransport .play (req 1 []) = some .noCassette) ∧
    ((offer 8 [3] playing).serves 0 0 (req 8 [3]) ∧
      ((offer 8 [3] playing).taken 0 0 (req 8 [3])).checkTransport .locate (req 8 [3]) = none ∧
      ((offer 8 [3] playing).taken 0 0 (req 8 [3])).checkLocate (req 8 [3]) = some .badArgument) ∧
    ((offer 13 [0, 0, 1, 1] State.reset).serves 0 0 (req 13 [0, 0, 1, 1]) ∧
      setClockOk (req 13 [0, 0, 1, 1]) = false) ∧
    ((offer 15 [2] State.reset).serves 0 0 (req 15 [2]) ∧ 1 < (req 15 [2]).byte 0) ∧
    ((offer 16 [2] State.reset).serves 0 0 (req 16 [2]) ∧ 1 < (req 16 [2]).byte 0) ∧
    (offer 0 [] State.reset).serves 0 0 (req 0 []) ∧
    ((offer 18 [] State.reset).serves 0 0 (req 18 []) ∧ 17 < (req 18 []).kind) := by
  unfold State.serves; decide +kernel

theorem test_BlockResetChecks_hyps :
    State.reset.checkReset (req 17 [32]) = some .badArgument ∧
      (let s := { loaded with transport.control := some 3 }; s.checkReset (req 17 [1]) = some .timerActive) ∧
      (let s := { loaded with tuner.owner := .record }; s.checkReset (req 17 [2]) = some .recording) ∧
      (offer 17 [1] State.reset).serves 0 0 (req 17 [1]) := by
  unfold State.serves; decide +kernel

/-- The requests that begin a path, with a target each. -/
def beginners : List (Nat × TransportKind) :=
  [(1, .play), (2, .record), (4, .pause), (5, .cue), (6, .review), (7, .wind), (9, .eject)]

theorem test_RequestsInLoadedBegin_hyps : ∀ x ∈ beginners,
    let s := offer x.1 [] loaded
    let a := offer x.1 [] (active loaded)
    (s.serves 0 0 (req x.1 []) ∧ x.1 = x.2.code ∧
      (s.taken 0 0 (req x.1 [])).checkTransport x.2 (req x.1 []) = none ∧ s.still = true ∧
      s.servo.drum = .off ∧ s.transport.mode = .loaded ∧ s.sensors.cam = .at .housed ∧
      s.transport.control = none ∧ s.requests.transportLane = none ∧ s.power.state = .quiet ∧
      s.power.supply = .off ∧ s.power.followsNeeds = true) ∧
    (a.serves 0 0 (req x.1 []) ∧ (a.taken 0 0 (req x.1 [])).checkTransport x.2 (req x.1 []) = none ∧
      a.still = true ∧ a.servo.drum = .off ∧ a.transport.mode = .loaded ∧ a.sensors.cam = .at .housed ∧
      a.transport.control = none ∧ a.requests.transportLane = none ∧ a.power.state = .active ∧
      a.power.supply = .ready) := by
  unfold State.serves; decide +kernel

theorem test_RequestsTakeTheTransport_hyps :
    ∀ x ∈ [(3, State.reset), (3, loaded), (9, State.reset)],
      let s := offer x.1 [] x.2
      s.serves 0 0 (req x.1 []) ∧ s.still = true ∧ s.transport.control = none ∧
        s.requests.transportLane = none ∧ ((x.1 = 3 ∧ (s.transport.mode = .empty ∨ s.transport.mode = .loaded)) ∨
          (x.1 = 9 ∧ s.transport.mode = .empty)) := by
  unfold State.serves; decide +kernel

/-- The transport requests by the mode they are taken in: their kind, a state, the target of their path. -/
def retargets : List (TransportKind × State × Goal) :=
  [(.play, running .windFwd, .play), (.play, threaded .stopped, .play), (.record, threaded .still, .record .standard 0),
    (.stop, running .playing, .stop false), (.stop, threaded .unthreading, .stop true),
    (.pause, running .playing, .still), (.pause, threaded .still, .play), (.pause, running .recording, .recPause),
    (.pause, threaded .recordPause, .resume), (.cue, threaded .stopped, .search .forward),
    (.review, running .cue, .search .reverse), (.wind, running .playing, .wind .forward),
    (.wind, running .windRev, .wind .forward), (.eject, threaded .recordPause, .eject)]

theorem test_requests_by_mode_hyps : ∀ e ∈ retargets, ∀ m ∈ [none, some (⟨.half, true, 90000⟩ : CamMove)],
    ∀ l ∈ [none, some 65536],
    let r := req e.1.code []
    let s := offer e.1.code [] (inFlight { e.2.1 with transport.camMove := m, transport.stopLimit := l })
    s.serves 0 0 r ∧ r.kind = e.1.code ∧ (s.taken 0 0 r).checkTransport e.1 r = none ∧
      s.requests.transportLane = some 2 ∧ s.requests.slots[(2 : Fin 16)] = some (req 1 []) ∧
      s.winding .forward = (e.2.1.transport.mode == .windFwd) ∧
      ((s.taken 0 0 r).dispatch 0 r).requests.transportLane = some 0 ∧
      ((s.taken 0 0 r).dispatch 0 r).transport.path.map (·.goal) = some e.2.2 := by
  unfold State.serves; decide +kernel

/-- The idle time runs in STOPPED. -/
def idling (s : State) : State := { s with transport.idle := some 5, timeBase := 9 }

theorem test_requests_start_the_idle_time_afresh_hyps :
    ∀ k ∈ [TransportKind.play, .stop, .pause, .cue, .wind, .eject],
      let r := req k.code []
      let s := offer k.code [] (idling (threaded .stopped))
      s.serves 0 0 r ∧ (s.taken 0 0 r).checkTransport k r = none ∧ s.requests.transportLane = none ∧
        s.transport.mode = .stopped ∧ s.transport.idle.isSome = true ∧ s.winding .forward = false ∧
        ((s.taken 0 0 r).dispatch 0 r).transport.idle = some (9 + Config.idleLimit) := by
  unfold State.serves; decide +kernel

theorem test_a_superseded_request_finishes :
    let t := after (.stop 0) (offer 3 [] (inFlight (running .playing)))
    t.bytes 0x0140 2 = [3, 1] ∧ t.bytes 0x014E 1 = [4] ∧ t.requests.transportLane = some 0 ∧
      t.transport.path = some ⟨.stop false, .stopping, false, false⟩ ∧ t.servo.cap = .off := by decide +kernel

theorem test_a_wind_under_way_hyps :
    let s := offer 7 [] (running .windFwd)
    s.serves 0 0 (req 7 []) ∧ (req 7 []).kind = 7 ∧ (s.taken 0 0 (req 7 [])).checkTransport .wind (req 7 []) = none ∧
      s.winding (windDir (req 7 [])) = true ∧ s.requests.transportLane = none ∧
      (after (.wind 0) s).bytes 0x010E 1 = [1] := by
  unfold State.serves; decide +kernel

theorem test_a_waiting_path_starts_at_the_arrival_hyps : ∀ p ∈ [CamPos.housed, .half, .full, .drive],
    let s := { threaded .unthreading with
      transport.camMove := some ⟨p, false, 90000⟩, transport.path := some ⟨.play, .waitMove, false, false⟩ }
    s.on = true ∧ p ≠ .eject ∧ s.transport.mode ≠ .faultHold ∧
      (after (.camMoveArrival p) s).transport.mode ∈ [Mode.loaded, .threading, .stopped] := by decide +kernel

/-- The capstan at work under a locked drum, in a mode. -/
def driven (m : Mode) (target : CapTarget) : State := { threaded m with
  servo.drum := .phaseLocked, servo.drumLocked := true, servo.cap := .phase, servo.capTarget := target
  servo.capReached := true }

theorem test_requests_at_drive_hyps :
    ∀ e ∈ [(TransportKind.play, Mode.still, CapTarget.hold, CapTarget.play),
      (.play, .playing, .play, .play), (.cue, .cue, .search .forward, .search .forward),
      (.cue, .playing, .play, .search .forward),
      (.review, .cue, .search .forward, .search .reverse), (.pause, .recordPause, .hold, .record .standard),
      (.pause, .recording, .record .standard, .hold), (.pause, .playing, .play, .hold)],
    let r := req e.1.code []
    let s := offer e.1.code [] (driven e.2.1 e.2.2.1)
    s.serves 0 0 r ∧ (s.taken 0 0 r).checkTransport e.1 r = none ∧ s.requests.transportLane = none ∧
      s.sensors.cam = .at .drive ∧ s.transport.camMove = none ∧ s.transport.path = none ∧
      s.transport.stopLimit = none ∧ s.transport.control = none ∧ s.servo.reel = .off ∧ s.servo.drum ≠ .off ∧
      s.servo.driveReady = true ∧ s.power.state = .active ∧ s.power.supply = .ready ∧ s.servo.recSpeed = .standard ∧
      (let t := State.settleEvent (s.posted 0) ((s.taken 0 0 r).dispatch 0 r)
       t.servo.capTarget = e.2.2.2 ∧ (t.requests.transportLane = none ↔ e.2.2.1 = e.2.2.2)) := by
  unfold State.serves; decide +kernel

/-- The arguments of a LOCATE to a counter value. -/
def locateArgs (thenPlay : Byte) (target : Int) : List Byte := [0, thenPlay, 0, 0] ++ signed32 target

theorem test_LocateChoosesItsFirstLeg_hyps :
    ∀ x ∈ [((0 : Byte), (5 : Int)), (1, -5), (0, 6), (0, 750), (1, 751), (0, -751)],
      let r := req 8 (locateArgs x.1 x.2)
      let s := offer 8 (locateArgs x.1 x.2) loaded
      s.serves 0 0 r ∧ r.byte 0 = 0 ∧ r.byte 1 = x.1.toNat ∧ counterClamp (r.long 4) = x.2 ∧ s.still = true ∧
        s.servo.drum = .off ∧ s.transport.mode = .loaded ∧ s.transport.control = none ∧
        s.requests.transportLane = none ∧ (s.taken 0 0 r).checkTransport .locate r = none ∧
        (s.taken 0 0 r).checkLocate r = none := by
  unfold State.serves; decide +kernel

theorem test_locate_targets_hyps :
    ∀ x ∈ [[(1 : Byte), 0, 0, 0, 1, 0, 0, 0], [2, 1, 0, 0, 1, 0, 0, 0], [2, 0, 0, 0] ++ signed32 (-99)],
      let r := req 8 x
      let s := offer 8 x { loaded with position.map := [⟨-6, .seen, none⟩, ⟨751, .written, some 4⟩] }
      s.serves 0 0 r ∧ r.kind = 8 ∧ s.still = true ∧ s.servo.drum = .off ∧ s.transport.mode = .loaded ∧
        s.transport.control = none ∧ s.requests.transportLane = none ∧
        (s.taken 0 0 r).checkTransport .locate r = none ∧ (s.taken 0 0 r).checkLocate r = none ∧
        (r.byte 0 = 2 ∨ s.position.map[(r.long 4).toNat]? = some ⟨751, .written, some 4⟩) := by
  unfold State.serves; decide +kernel

theorem test_a_locate_takes_the_lane_hyps : ∀ m ∈ [Mode.stopped, .playing, .still],
    let r := req 8 (locateArgs 0 751)
    let s := offer 8 (locateArgs 0 751) (inFlight (idling (running m)))
    s.serves 0 0 r ∧ (∀ l, s.requests.transportLane = some l → l ≠ 0) ∧ s.transport.mode = m ∧
      (s.taken 0 0 r).checkTransport .locate r = none ∧ (s.taken 0 0 r).checkLocate r = none ∧
      (let x := (s.taken 0 0 r).dispatch 0 r
       x.requests.slots[(2 : Fin 16)] = none ∧ x.requests.transportLane = some 0 ∧
         (m = .stopped → x.transport.idle = some (9 + Config.idleLimit))) := by
  unfold State.serves; decide +kernel

/-- A LOCATE on a leg, with its request in flight in slot 2. -/
def locating (leg : Leg) (d : Int) (p : Path) (s : State) : State := { inFlight s with
  position.locate := some ⟨.counter, some (1000 + d), 1, 0, leg, false⟩, position.counter := 1000, transport.path := some p }

/-- A wind leg under way. -/
def windLeg (d : Int) : State := locating (.wind .forward) d ⟨.wind .forward, .driving, false, false⟩ (running .windFwd)

theorem test_wind_legs_hyps :
    (∀ d ∈ [(751 : Int), 750, 0, -1, -751],
      (windLeg d).servo.reel ≠ .off ∧ (windLeg d).transport.camMove = none ∧ (windLeg d).transport.stopLimit = none ∧
        ((windLeg d).locateTest.position.locate.map (·.leg)) = some (if d = 751 then .wind .forward else .search)) ∧
    (let s := { windLeg 751 with servo.reelReached := true }
     s.position.locate.isSome = true ∧ s.transport.path = some ⟨.wind .forward, .driving, false, false⟩) ∧
    (let s := { windLeg 9 with transport.camMove := some ⟨.half, true, 90000⟩ }
     s.locateTest.transport.path.map (·.stage) = some .waitMove) := by decide +kernel

/-- A search leg under way in a mode, the capstan toward a target. -/
def searchLeg (m : Mode) (d : Int) (stage : Stage) (t : CapTarget) : State :=
  locating .search d ⟨.locateSearch, stage, false, false⟩ (driven m t)

theorem test_search_legs_hyps :
    (∀ m ∈ [Mode.stopped, .still, .cue, .review, .playing], ∀ d ∈ [(6 : Int), 5, -5, -6],
      (searchLeg m d .driving (.search .forward)).transport.mode = m ∧
        ((searchLeg m d .driving (.search .forward)).locateTest.position.locate = none ↔ d.natAbs ≤ 5)) ∧
    (∀ d ∈ [(6 : Int), 5],
      let s := searchLeg .stopped d .drive .hold
      s.power.supply = .ready ∧ s.servo.drum = .phaseLocked ∧
        (s.pathStep.any fun x => x.position.locate.isNone) = (d == 5)) ∧
    (∀ m ∈ [Mode.stopped, .cue],
      let s := searchLeg m 6 .driving (.search .forward)
      s.servo.capReached = true ∧ s.pathStep.isSome = (m == .stopped)) ∧
    (searchLeg .stopped 6 .stopping .hold).locateTest = searchLeg .stopped 6 .stopping .hold := by decide +kernel

theorem test_pulses_of_a_locate_hyps :
    (let s := windLeg 752
     s.on = true ∧ s.position.detector = none ∧ s.transport.mode ≠ .recording ∧
       ((after (.controlPulse .forward false 16000) s).position.locate.map (·.leg)) = some (.wind .forward) ∧
       ((after (.controlPulse .reverse false 16000) s).position.locate.map (·.leg)) = some (.wind .forward)) ∧
    ((after (.controlPulse .forward false 16000) (windLeg 751)).position.locate.map (·.leg)) = some .search ∧
    (let s := { searchLeg .cue 9 .driving (.search .forward) with position.source := .estimated }
     s.on = true ∧ s.position.detector = none ∧ s.countsBlank = true) ∧
    ((after (.reelRotationPulse .takeUp 0) { windLeg 800 with remaining.ku := some ⟨3200, 2⟩ }).position.locate.map
      (·.leg)) = some .search := by decide +kernel

/-- A LOCATE to marks on its wind, the detector in a run. -/
def seekingMarks (wanted length : Nat) : State := { windLeg 0 with
  position.locate := some ⟨.marks, none, wanted, 0, .wind .forward, false⟩
  position.detector := some ⟨.forward, length, 960, true⟩ }

theorem test_marks_of_a_locate_hyps :
    (∀ x ∈ [(1, 31), (1, 32), (2, 32)],
      let s := seekingMarks x.1 x.2
      s.on = true ∧ s.transport.mode ≠ .recording ∧ s.position.locate = some ⟨.marks, none, x.1, 0, .wind .forward, false⟩ ∧
        (after (.controlPulse .forward false 16000) s).position.locate
          = some (if x = (1, 31) then ⟨.marks, none, 1, 0, .wind .forward, false⟩
            else if x = (1, 32) then ⟨.marks, some 960, 1, 1, .search, false⟩
            else ⟨.marks, none, 2, 1, .wind .forward, false⟩)) := by decide +kernel

theorem test_ends_of_a_locate_hyps :
    (∀ s ∈ [windLeg 5000, searchLeg .cue 9 .driving (.search .forward), searchLeg .stopped 0 .cam .hold],
      s.on = true ∧ s.sensors.endActive = false ∧ s.requests.transportLane = some 2 ∧
        (after .endSensorActive s).position.locate = none ∧ (after .endSensorActive s).requests.transportLane = none) ∧
    (let s := searchLeg .review (-9) .driving (.search .reverse)
     s.sensors.startActive = false ∧ s.servo.moving = true ∧ s.transport.mode ∈ [Mode.playing, .review] ∧
       (after .startSensorActive s).position.locate = none) := by decide +kernel

/-- Presets 1 and 3 in use, of divisors 2000 and 3000, the second of them skipped if `skip`. -/
def presets (skip : Bool) (s : State) : State :=
  holds 0x0500 ([3, 0] ++ le16 2000) (holds 0x0520 ([if skip then 5 else 1, 0] ++ le16 3000) s)

theorem test_SelectTunesItsTarget_hyps :
    let base := presets false (active loaded)
    (∀ x ∈ [([(0 : Byte), 0, 1, 0], Selection.preset 1), ([1, 0, 0, 0], .preset 1), ([3, 0, 0, 0], .direct 1343)],
      let s := offer 10 x.1 base
      s.serves 0 0 (req 10 x.1) ∧ s.power.state = .active ∧ s.tuner.owner ≠ .record ∧ s.tuner.seek = none ∧
        ((s.taken 0 0 (req 10 x.1)).selectTarget (req 10 x.1)).toOption = some x.2) := by
  unfold State.serves; decide +kernel

theorem test_a_select_refused_hyps :
    ∀ x ∈ [([(0 : Byte), 0, 0, 0], Reason.badArgument), ([0, 0, 2, 0], .emptyPreset), ([4, 0, 0, 0], .badArgument)],
      ∀ b ∈ [loaded, active loaded, { active loaded with tuner.seek := some 1, tuner.owner := .seek }],
        let s := offer 10 x.1 (presets false b)
        let r := req 10 x.1
        s.serves 0 0 r ∧ s.tuner.owner ≠ .record ∧
          (match (s.taken 0 0 r).selectTarget r with
          | .error why => why == x.2
          | .ok _ => false) = true ∧
          (after (.select 0) s).requests.slots[(0 : Fin 16)] = none ∧
          (after (.select 0) s).tuner.selection = s.tuner.selection ∧
          (after (.select 0) s).tuner.seek = (if s.power.state = .active then none else s.tuner.seek) := by
  unfold State.serves; decide +kernel

theorem test_SelectTarget_hyps :
    let s := { presets false State.reset with tuner.selection := .preset 1 }
    let t := { presets false State.reset with tuner.selection := .preset 3 }
    (∀ r ∈ [req 10 [0, 0, 0, 0], req 10 [0, 0, 65, 0], req 10 [0, 0, 64, 0]], r.byte 0 = 0) ∧
      (req 10 [3, 0, 63, 5]).byte 0 = 3 ∧ 3 < (req 10 [4]).byte 0 ∧
      (s.selectTarget (req 10 [1])).toOption = some (.preset 3) ∧ s.selectable 3 = true ∧
      (∀ m, m ∈ [2] → s.selectable m = false) ∧ (t.selectTarget (req 10 [2])).toOption = some (.preset 1) ∧
      t.selectable 1 = true ∧
      (∀ p ∈ presetNumbers, State.reset.selectable p = false) ∧
      (presets true State.reset).selectable 3 = false := by decide +kernel

/-- Presets 1 and 3 alone can be selected: round the end of the table, and from a divisor or NONE. -/
theorem test_SelectTarget_round_the_end_hyps :
    let at_ := fun x : Selection => ({ presets false State.reset with tuner.selection := x } : State)
    (∀ x ∈ [Selection.none, .direct 2000],
      ((at_ x).selectTarget (req 10 [1])).toOption = some (.preset 1) ∧
        ((at_ x).selectTarget (req 10 [2])).toOption = some (.preset 3)) ∧
      (∀ m ∈ presetNumbers, (at_ .none).selectable m = (m == 1 || m == 3)) ∧
      ((at_ (.preset 3)).selectTarget (req 10 [1])).toOption = some (.preset 1) ∧
      ((at_ (.preset 1)).selectTarget (req 10 [2])).toOption = some (.preset 3) := by decide +kernel

/-- A SELECT in flight in slot 4. -/
def selecting (g : Signal) (a : AftState) (readings : Nat) : State :=
  let s := tuned g
  { s with
      tuner := { s.tuner with aft := a, aftReady := true, readings := readings }
      requests := { s.requests with slots := s.requests.slots.set 4 (some (req 10 [3])), tunerLane := some 4 } }

theorem test_a_select_ends_hyps :
    (∀ s ∈ [selecting .acquiring .off 0, selecting .noLock .running 0, selecting .locked .running 38,
        selecting .sync .running 39],
      s.on = true ∧ s.tuner.scan = none ∧ s.tuner.base.isSome = true ∧ s.requests.tunerLane = some 4 ∧
        s.requests.slots[(4 : Fin 16)] = some (req 10 [3]) ∧ s.tuner.lockLimit.isSome = true ∧
        s.tuner.aftReady = true) ∧
      (after (.synthLock true) (selecting .acquiring .off 0)).requests.tunerLane = none ∧
      (after (.synthLock true) (selecting .acquiring .running 0)).requests.tunerLane = some 4 ∧
      (after (.aftReading .centre) (selecting .locked .running 3)).requests.tunerLane = none ∧
      (after (.aftReading .low) (selecting .locked .running 38)).requests.tunerLane = some 4 ∧
      (after (.aftReading .low) (selecting .sync .running 39)).requests.tunerLane = none ∧
      (after .lockLimitExpiry (selecting .acquiring .running 0)).requests.tunerLane = none := by decide +kernel

/-- A FINE in ACTIVE with a selection. -/
def fining (sel : Selection) (args : List Byte) : State :=
  offer 11 args { presets false (active loaded) with tuner.selection := sel }

theorem test_FineTunesAndStores_hyps :
    (∀ x ∈ [Selection.direct 1343, .preset 1],
      let s := fining x [0x80]
      s.serves 0 0 (req 11 [0x80]) ∧ s.power.state = .active ∧ s.tuner.owner ≠ .record ∧
        (req 11 [0x80]).byte 1 = 0 ∧ s.tuner.selection = x ∧
        ((s.taken 0 0 (req 11 [0x80])).preset 1).inUse = true) ∧
    (let s := fining (.preset 1) [0x1F, 1]
     s.serves 0 0 (req 11 [0x1F, 1]) ∧ s.tuner.owner ≠ .record ∧ (req 11 [0x1F, 1]).byte 1 ≠ 0 ∧
       s.claims.host.presets = false ∧ ((s.taken 0 0 (req 11 [0x1F, 1])).preset 1).inUse = true ∧
       s.tuner.scan = none ∧ s.requests.tunerLane = none) ∧
    (∀ k ∈ [10, 11, 12],
      let s := offer k [] { active loaded with tuner.owner := .record }
      s.serves 0 0 (req k []) ∧ s.tuner.owner = .record ∧ s.tuner.seek = none) ∧
    (let s := fining .none [1]
     s.serves 0 0 (req 11 [1]) ∧ s.tuner.owner ≠ .record ∧ s.tuner.seek = none ∧ s.tuner.selection = .none) ∧
    (let s := { fining (.preset 64) [1, 1] with claims.host.presets := true }
     s.serves 0 0 (req 11 [1, 1]) ∧ s.tuner.owner ≠ .record ∧ s.tuner.seek = none ∧
       (req 11 [1, 1]).byte 1 ≠ 0 ∧ s.claims.host.presets = true ∧ s.tuner.selection = .preset 64) := by
  unfold State.serves; decide +kernel

/-- A FINE in flight in slot 2, on the TUNER lane, with an AFT. -/
def finishing (a : AftState) (g : Signal) : State :=
  let s := tuned g
  { s with tuner.aft := a, requests := { s.requests with
      slots := s.requests.slots.set 2 (some (req 11 [5])), tunerLane := some 2 } }

theorem test_fine_ends_at_lock_hyps :
    ∀ x ∈ [(AftState.running, Signal.acquiring), (.off, .noLock)], ∀ sync ∈ [true, false],
      let s := finishing x.1 x.2
      s.on = true ∧ s.tuner.scan = none ∧ s.requests.tunerLane = some 2 ∧
        s.requests.slots[(2 : Fin 16)] = some (req 11 [5]) ∧ (req 11 [5]).kind = 11 ∧
        s.tuner.base.isSome = true ∧ s.tuner.signal = x.2 ∧
        (after (.synthLock sync) s).requests.tunerLane = none ∧
        (after (.synthLock sync) s).tuner.aft = x.1 := by decide +kernel

theorem test_requests_in_quiet_hyps :
    (∀ x ∈ [(10, [(0 : Byte), 0, 1, 0]), (10, [3, 0, 0, 8]), (11, [7, 0]), (11, [7, 1])],
      ∀ y ∈ [(TunerOwner.none, Signal.unpowered), (.seek, .acquiring)],
      let r := req x.1 x.2
      let s := offer x.1 x.2 { presets false loaded with
        tuner.selection := .preset 1, tuner.owner := y.1, tuner.signal := y.2 }
      s.serves 0 0 r ∧ s.power.state = .quiet ∧ s.tuner.scan = none ∧ s.requests.tunerLane = none ∧
        s.tuner.owner = y.1 ∧ s.tuner.signal = y.2 ∧ s.claims.host.presets = false ∧
        ((s.taken 0 0 r).preset 1).inUse = true ∧
        (x.1 = 11 ∨ ((s.taken 0 0 r).selectTarget r).toOption.isSome = true) ∧
        (after (.select 0) s).requests.slots[(0 : Fin 16)] = none) := by
  unfold State.serves; decide +kernel

theorem test_ScanBegins_hyps :
    (∀ b ∈ [(0 : Byte), 1],
      let s := offer 12 [b] (active loaded)
      s.serves 0 0 (req 12 [b]) ∧ s.tuner.owner ≠ .record ∧ s.claims.host.presets = false ∧
        (s.taken 0 0 (req 12 [b])).lowestUnused.isSome = true ∧ s.requests.tunerLane = none ∧
        s.tuner.scan = none) ∧
    (let s := offer 12 [2] (active loaded)
     s.serves 0 0 (req 12 [2]) ∧ s.tuner.seek = none ∧ 1 < (req 12 [2]).byte 0) ∧
    (let s := { offer 12 [1] (active loaded) with claims.host.presets := true }
     s.serves 0 0 (req 12 [1]) ∧ s.tuner.seek = none ∧ (req 12 [1]).byte 0 ≤ 1 ∧ s.claims.host.presets = true) := by
  unfold State.serves; decide +kernel

theorem test_SetClock_hyps :
    ∀ a ∈ [[(0xBC : Byte), 0x07, 1, 1, 0, 0, 0], [0x1F, 0x08, 12, 31, 23, 59, 59]],
      let r := req 13 a
      (offer 13 a State.reset).serves 0 0 r ∧ validDate ⟨r.word 0, r.byte 2, r.byte 3⟩ = true ∧
        r.byte 4 ≤ 23 ∧ r.byte 5 ≤ 59 ∧ r.byte 6 ≤ 59 := by
  unfold State.serves; decide +kernel

theorem test_CounterZero_hyps :
    let s := offer 14 [] { playing with
      position.map := [⟨-899999, .seen, none⟩, ⟨50, .written, none⟩]
      position.detector := some ⟨.forward, 3, 95, false⟩, position.writer := .writing 3 none (some 50)
      position.locate := some ⟨.counter, some 900, 0, 0, .search, false⟩ }
    s.serves 0 0 (req 14 []) ∧ (req 14 []).kind = 14 ∧
      (after (.counterZero 0) s).position.map = [⟨-50, .written, none⟩] ∧
      s.position.locate = some ⟨.counter, some 900, 0, 0, .search, false⟩ := by
  unfold State.serves; decide +kernel

theorem test_TrackSetsTheOffset_hyps :
    (let s := offer 15 [0, 0xC0] State.reset
     s.serves 0 0 (req 15 [0, 0xC0]) ∧ (req 15 [0, 0xC0]).byte 0 = 0) ∧
    (let s := offer 15 [1] { playing with servo.cap := .phase, servo.capRef := .control }
     s.serves 0 0 (req 15 [1]) ∧ (req 15 [1]).byte 0 = 1 ∧ s.transport.mode = .playing ∧
       s.servo.onControl = true) ∧
    (let s := offer 15 [1] playing
     s.serves 0 0 (req 15 [1]) ∧ s.transport.mode = .playing ∧ s.servo.onControl = false) ∧
    (let s := offer 15 [1] loaded
     s.serves 0 0 (req 15 [1]) ∧ s.transport.mode ≠ .playing) := by
  unfold State.serves; decide +kernel

theorem test_PowerRequests_hyps :
    (∀ x ∈ [State.reset, loaded],
      let s := offer 16 [1] x
      s.serves 0 0 (req 16 [1]) ∧ s.still = true ∧ s.settledPower = true ∧ s.holder = none ∧
        s.tuner.selection = .none ∧ s.transport.control = none ∧ s.requests.transportLane = none ∧
        s.requests.tunerLane = none ∧ (s.transport.mode = .empty ∨ s.transport.mode = .loaded) ∧
        (req 16 [1]).byte 0 = 1 ∧ s.power.state = .quiet ∧ s.tuner.owner = .none) ∧
    (let s := offer 16 [0] (active loaded)
     s.serves 0 0 (req 16 [0]) ∧ s.still = true ∧ s.settledPower = true ∧ s.holder = none ∧
       s.tuner.selection = .none ∧ s.transport.control = none ∧ s.requests.transportLane = none ∧
       s.requests.tunerLane = none ∧ s.transport.mode = .loaded ∧ (req 16 [0]).byte 0 = 0 ∧
       s.power.state = .active ∧ s.power.schedulerNeed = false ∧ s.tuner.owner = .view) := by
  unfold State.serves; decide +kernel

theorem test_power_with_a_selection_and_tape_hyps :
    (let s := offer 16 [1] { loaded with tuner.selection := .direct 2000 }
     s.serves 0 0 (req 16 [1]) ∧ s.still = true ∧ s.settledPower = true ∧ s.holder = none ∧
       s.power.state = .quiet ∧ s.tuner.owner = .none ∧ (∀ p < 70, s.tuner.selection ≠ .preset p)) ∧
    (let s := offer 16 [0] (running .playing)
     s.serves 0 0 (req 16 [0]) ∧ s.transport.mode = .playing ∧ s.transport.camMove = none ∧
       s.transport.path = none ∧ s.transport.stopLimit = none ∧ s.transport.control = none ∧
       s.requests.transportLane = none ∧ s.servo.cap = .phase ∧ s.servo.reel = .off ∧ s.power.state = .active ∧
       (after (.powerOff 0) s).transport.path = some ⟨.powerDown, .stopping, false, false⟩) ∧
    (let s := { threaded .playing with
       sensors.cam := .at .full, transport.path := some ⟨.powerDown, .cam, false, false⟩ }
     s.transport.camMove = none ∧ s.transport.stopLimit = none ∧ s.servo.moving = false ∧
       s.pathStep.map (·.transport.mode) = some .stopped) := by
  unfold State.serves; decide +kernel

theorem test_a_scan_supersedes_hyps :
    (∀ b ∈ [(0 : Byte), 1],
      let s := offer 12 [b] (finishing .running .acquiring)
      let t := after (.scan 0) s
      s.serves 0 0 (req 12 [b]) ∧ s.tuner.owner ≠ .record ∧ s.claims.host.presets = false ∧
        (s.taken 0 0 (req 12 [b])).lowestUnused.isSome = true ∧ s.requests.tunerLane = some 2 ∧
        s.requests.slots[(2 : Fin 16)] = some (req 11 [5]) ∧ s.tuner.scan = none ∧
        t.requests.tunerLane = some 0 ∧ t.requests.slots[(2 : Fin 16)] = none ∧
        t.bytes 0x0140 28 = finishBytes (req 11 [5]) .superseded .none []) ∧
    (let f := finishing .off .noLock
     let s := offer 12 [0] { f with
       tuner.owner := .scan, tuner.scan := some ⟨false, 1500, .dwell, some 9, 0, none, 2⟩
       claims.engine.presets := true, requests.slots := f.requests.slots.set 2 (some (req 12 [0])) }
     s.serves 0 0 (req 12 [0]) ∧ s.tuner.owner ≠ .record ∧ s.claims.host.presets = false ∧
       (s.taken 0 0 (req 12 [0])).lowestUnused.isSome = true ∧ s.requests.tunerLane = some 2 ∧
       (after (.scan 0) s).bytes 0x0140 28
         = finishBytes (req 12 [0]) .superseded .none (le16 2 ++ le16 0 ++ le16 1500) ∧
       (after (.scan 0) s).tuner.scan.map (·.step) = some 1343) := by
  unfold State.serves; decide +kernel

theorem test_BlockResetsByMember_hyps :
    (∀ b ∈ [(1 : Byte), 2, 4, 8, 16, 20],
      let s := offer 17 [b] playing
      s.serves 0 0 (req 17 [b]) ∧ (s.taken 0 0 (req 17 [b])).checkReset (req 17 [b]) = none ∧
        (req 17 [b]).byte 0 % 32 = b.toNat ∧ s.position.detector = none ∧ s.requests.transportLane = none ∧
        ∀ m, s.run m = none) ∧
    (let s := offer 17 [2] { State.reset with
       tuner.owner := .seek, tuner.seek := some 1, tuner.signal := .acquiring, decoder.powered := true
       clock.seek := some ⟨1, 9⟩ }
     s.serves 0 0 (req 17 [2]) ∧ (s.taken 0 0 (req 17 [2])).checkReset (req 17 [2]) = none ∧
       s.power.state = .quiet ∧ s.tuner.scan = none ∧ s.tuner.signal ≠ .unpowered ∧
       s.requests.tunerLane = none) ∧
    (let s := offer 17 [2] (tuned .sync)
     s.serves 0 0 (req 17 [2]) ∧ (s.taken 0 0 (req 17 [2])).checkReset (req 17 [2]) = none ∧
       s.power.state = .active ∧ s.power.hostNeed = true ∧ s.tuner.scan = none ∧
       s.tuner.selection = .direct 2000 ∧ s.requests.tunerLane = none) := by
  unfold State.serves; decide +kernel

/-! ### The mechanism -/

/-- A cam move under way. -/
def moving (m : Mode) (target : CamPos) (up : Bool) (p : Option Path) : State := { active loaded with
  transport.mode := m, transport.camMove := some ⟨target, up, 90000⟩, transport.path := p
  sensors.cam := .between (if up then target.prev else target) }

/-- A BLOCK_RESET of TRANSPORT: with a request in flight and a move under way, in FAULT_HOLD too, and with none at
every position of the cam and between two. -/
theorem test_a_transport_reset_hyps :
    (∀ m ∈ [Mode.ejecting, .faultHold],
      let s := offer 17 [1] (inFlight (moving m .eject false (some ⟨.eject, .cam, false, false⟩)))
      let t := after (.blockResetTransport 0) s
      s.serves 0 0 (req 17 [1]) ∧ (s.taken 0 0 (req 17 [1])).checkReset (req 17 [1]) = none ∧
        s.requests.transportLane = some 2 ∧ s.requests.slots[(2 : Fin 16)] = some (req 1 []) ∧
        s.transport.camMove = some ⟨.eject, false, 90000⟩ ∧
        t.bytes 0x0140 28 = finishBytes (req 1 []) .superseded .none [] ∧
        t.bytes 0x0100 28 = finishBytes (req 17 [1]) .done .none (le16 1) ∧
        t.requests.transportLane = none ∧ t.transport.mode = .ejecting) ∧
    (∀ x ∈ [(CamAt.at .eject, Mode.empty), (.between .eject, .empty), (.at .housed, .loaded),
        (.between .housed, .stopped), (.at .half, .stopped), (.between .half, .stopped), (.at .full, .stopped),
        (.between .full, .stopped), (.at .drive, .stopped)],
      let s := offer 17 [1] { active loaded with transport.mode := .faultHold, sensors.cam := x.1 }
      s.serves 0 0 (req 17 [1]) ∧ (s.taken 0 0 (req 17 [1])).checkReset (req 17 [1]) = none ∧
        s.transport.camMove = none ∧ s.requests.transportLane = none ∧
        (after (.blockResetTransport 0) s).transport.fault = .none) := by
  unfold State.serves; decide +kernel

theorem test_the_rest_after_a_reset_hyps :
    ∀ x ∈ [(CamAt.at .eject, Mode.empty, (none : Option (CamPos × Bool))),
        (.between .eject, .empty, some (.eject, false)),
        (.at .housed, .loaded, none), (.between .housed, .stopped, some (.housed, false)),
        (.at .half, .stopped, some (.full, true)), (.between .half, .stopped, some (.half, false)),
        (.at .full, .stopped, none), (.between .full, .stopped, some (.full, false)),
        (.at .drive, .stopped, some (.full, false))],
      let s := { active loaded with
        transport.mode := x.2.1, sensors.cam := x.1, transport.path := some ⟨.rest, .cam, false, false⟩
        transport.switchArmed := false }
      s.transport.camMove = none ∧ s.power.supply = .ready ∧ s.transport.switchArmed = false ∧
        s.transport.order = none ∧
        s.pathStep.map (fun y => y.transport.camMove.map fun m => (m.target, m.up)) = some x.2.2 := by
  decide +kernel

theorem test_CamArrivals_hyps :
    (loaded.on = true ∧ ∀ m, loaded.transport.camMove = some m → m.target ≠ .drive) ∧
    (let s := moving .threading .half true (some ⟨.play, .cam, false, false⟩)
     s.on = true ∧ s.transport.camMove = some ⟨.half, true, 90000⟩ ∧
       s.transport.path = some ⟨.play, .cam, false, false⟩ ∧ Stage.cam ≠ .waitMove ∧
       CamPos.half ≠ .eject ∧ CamPos.half ≠ .housed) ∧
    (let s := moving .empty .housed true (some ⟨.house, .cam, false, false⟩)
     s.on = true ∧ s.transport.camMove = some ⟨.housed, true, 90000⟩ ∧ s.transport.mode = .empty ∧
       s.position.locate = none) ∧
    (let s := inFlight (moving .ejecting .eject false (some ⟨.eject, .cam, false, false⟩))
     s.requests.transportLane = some 2 ∧ (after (.camMoveArrival .eject) s).requests.transportLane = none ∧
       (after (.camMoveArrival .eject) s).bytes 0x014E 1 = [1] ∧
       (after (.camMoveArrival .eject) s).transport.mode = .empty) ∧
    (let s := moving .ejecting .eject false (some ⟨.eject, .cam, false, false⟩)
     s.on = true ∧ s.transport.camMove = some ⟨.eject, false, 90000⟩ ∧ s.transport.mode = .ejecting ∧
       s.position.detector = none ∧
       ∀ q, s.transport.path = some q → q.goal ≠ .rest) := by
  refine ⟨⟨by decide, fun m h => nomatch h⟩, by decide +kernel, by decide +kernel, by decide +kernel,
    by decide +kernel, by decide +kernel, by decide +kernel, by decide +kernel, ?_⟩
  intro q h
  cases h
  decide

/-- The arrivals at HOUSED on the way up again (log 75), and at EJECT out of FAULT_HOLD. -/
theorem test_more_cam_arrivals_hyps :
    (let s := moving .empty .housed true (some ⟨.play, .waitMove, true, false⟩)
     s.on = true ∧ s.transport.camMove = some ⟨.housed, true, 90000⟩ ∧ s.transport.mode = .empty ∧
       s.position.locate = none ∧ (after (.camMoveArrival .housed) s).position.map = []) ∧
    (let y := inFlight (moving .faultHold .eject false (some ⟨.eject, .cam, false, false⟩))
     let s := { y with transport.fault := .mechJam }
     let t := after (.camMoveArrival .eject) s
     s.on = true ∧ s.transport.camMove = some ⟨.eject, false, 90000⟩ ∧ s.transport.mode = .faultHold ∧
       Goal.eject ≠ .rest ∧ s.position.locate = none ∧
       s.transport.path = some ⟨.eject, .cam, false, false⟩ ∧ s.holder = none ∧ s.requests.transportLane = some 2 ∧
       s.requests.slots[(2 : Fin 16)] = some (req 1 []) ∧ t.transport.mode = .empty ∧ t.transport.fault = .none ∧
       t.bytes 0x0140 28 = finishBytes (req 1 []) .done .none []) := by decide +kernel

/-- The move of an EJECT, whose EJECT a BLOCK_RESET of TRANSPORT has ended (log 83). -/
theorem test_an_eject_move_after_a_block_reset_hyps :
    let s := moving .ejecting .eject false (some ⟨.rest, .waitMove, false, false⟩)
    s.on = true ∧ s.transport.camMove = some ⟨.eject, false, 90000⟩ ∧ s.transport.mode = .ejecting ∧
      s.transport.path = some ⟨.rest, .waitMove, false, false⟩ ∧
      (after (.camMoveArrival .eject) s).presenter.pending.contains ⟨.transport, 1⟩ = false := by decide +kernel

/-- A LOCATE taken during the housing move, its first leg a wind. -/
def locatingAtHousing (dir : Dir) (target : Int) : State :=
  { moving .empty .housed true (some ⟨.wind dir, .waitMove, true, false⟩) with
    position.locate := some ⟨.counter, some target, 1, 0, .wind dir, false⟩, position.counter := 5000 }

theorem test_a_locate_at_the_housing_hyps :
    ∀ x ∈ [(Dir.reverse, (-750 : Int)), (.reverse, -751), (.reverse, 751), (.forward, 751)],
      let s := locatingAtHousing x.1 x.2
      s.on = true ∧ s.transport.camMove = some ⟨.housed, true, 90000⟩ ∧ s.transport.mode = .empty ∧
        s.transport.path = some ⟨.wind x.1, .waitMove, true, false⟩ ∧ s.servo.moving = false ∧
        s.transport.stopLimit = none ∧
        (after (.camMoveArrival .housed) s).position.locate.map (·.leg)
          = some (if x.2 = -751 ∨ x = (.forward, 751) then .wind x.1 else .search) := by decide +kernel

/-- The drum under a lock deadline. -/
def drumLocking : State := { threaded .stopped with
  servo.drum := .spinningUp, servo.drumDeadline := some ⟨.drumLock, 98304⟩ }

theorem test_MotorFaults_hyps :
    (let s := inFlight (moving .threading .half true (some ⟨.play, .cam, false, false⟩))
     s.on = true ∧ s.transport.owner ≠ .manual ∧ s.transport.camMove.isSome = true ∧
       s.requests.transportLane = some 2 ∧ s.requests.slots[(2 : Fin 16)] = some (req 1 [])) ∧
    (let s := { playing with transport.stall := some 65536 }
     s.on = true ∧ s.transport.owner ≠ .manual ∧ s.transport.stall.isSome = true ∧ s.transport.camMove = none) ∧
    (playing.on = true ∧ playing.transport.stall = none ∧ playing.servo.deadline .capstan = none) ∧
    (drumLocking.on = true ∧ drumLocking.servo.deadline .drum = some ⟨.drumLock, 98304⟩) ∧
    (let s := inFlight drumLocking
     let t := after (.servoDeadlineExpiry .drum) s
     s.requests.transportLane = some 2 ∧ s.transport.mode ∈ [Mode.threading, .stopped, .playing] ∧
       t.requests.transportLane = none ∧ t.bytes 0x014E 2 = [3, 14]) := by decide +kernel

/-- TRACK AUTO was taken in PLAYING's stop-motion stage: the search is PENDING with the capstan OFF. -/
theorem test_a_failure_ends_the_auto_search :
    (let s := { drumLocking with transport.mode := .playing, servo.auto := .pending }
     s.servo.cap = .off ∧ s.servo.capTarget = .none ∧ (s.servo.deadline .drum).isSome = true ∧
       (after (.servoDeadlineExpiry .drum) s).servo.auto = .idle) ∧
    (let s := { drumLocking with servo.auto := .coarse ⟨7, none, -56⟩ }
     (s.servo.deadline .drum).isSome = true ∧ (after (.servoDeadlineExpiry .drum) s).servo.tracking = 7) := by
  decide +kernel

theorem test_a_failure_ends_a_fine_search :
    let s := { drumLocking with servo.auto := .fine ⟨7, none, -56⟩ 3 .above }
    s.on = true ∧ (s.servo.deadline .drum).isSome = true ∧ s.servo.auto = .fine ⟨7, none, -56⟩ 3 .above ∧
      (after (.servoDeadlineExpiry .drum) s).servo.tracking = 7 := by decide +kernel

theorem test_manual_pauses_end_hyps :
    let s := { threaded .recordPause with
      transport.owner := .manual, tuner.owner := .record, transport.stall := some 9
      servo.capDeadline := some ⟨.capstanRelock, 9⟩ }
    s.on = true ∧ s.transport.mode = .recordPause ∧ s.transport.owner = .manual ∧ s.tuner.owner = .record ∧
      s.transport.camMove = none ∧ s.transport.stall.isSome = true ∧ (s.servo.deadline .capstan).isSome = true ∧
      s.sensors.dew = false ∧
      (∀ x ∈ [(Instr.reelStall, Mode.faultHold), (.servoDeadlineExpiry .capstan, .stopped), (.dewAppears, .stopped)],
        (after x.1 s).transport.owner = .none ∧ (after x.1 s).transport.mode = x.2) := by decide +kernel

theorem test_manual_recordings_end_hyps :
    let s := { recordingFor 2 with transport.stall := some 9, servo.capDeadline := some ⟨.capstanRelock, 9⟩ }
    s.on = true ∧ s.transport.mode = .recording ∧ s.transport.owner = .manual ∧ s.tuner.owner = .record ∧
      s.transport.camMove = none ∧ s.transport.stall.isSome = true ∧ (s.servo.deadline .capstan).isSome = true ∧
      s.sensors.dew = false ∧ s.sensors.endActive = false ∧
      (∀ c ∈ [Instr.reelStall, .servoDeadlineExpiry .capstan, .dewAppears, .endSensorActive],
        (after c s).transport.owner = .none ∧ (after c s).tuner.owner = .view) := by decide +kernel

theorem test_SensorReportsAndDew_hyps :
    (State.reset.on = true ∧ State.reset.transport.mode = .empty ∧ State.reset.transport.camMove = none ∧
      State.reset.transport.path = none ∧ State.reset.sensors.cam = .at .eject ∧
      State.reset.sensors.switchClosed = false) ∧
    loaded.sensors.switchClosed = true ∧ loaded.transport.mode ≠ .empty ∧
    (loaded.transport.control = none ∧ loaded.sensors.dew = false ∧ loaded.transport.mode = .loaded) ∧
    (let s := inFlight playing
     s.on = true ∧ s.transport.control = none ∧ s.sensors.dew = false ∧ s.transport.mode ≠ .empty ∧
       s.transport.mode ≠ .loaded ∧ s.transport.mode ≠ .ejecting ∧ s.transport.mode ≠ .faultHold ∧
       s.transport.owner ≠ .manual ∧ s.requests.transportLane = some 2 ∧
       s.requests.slots[(2 : Fin 16)] = some (req 1 [])) ∧
    (let s := { loaded with sensors.dew := true }; s.on = true ∧ s.sensors.dew = true) := by decide +kernel

theorem test_TapeEndsStopTheTape_hyps :
    (∀ x ∈ [(true, Mode.playing), (true, .cue), (true, .windFwd), (false, .review), (false, .windRev)],
      let s := inFlight (running x.2)
      s.on = true ∧ s.transport.control = none ∧ s.position.locate = none ∧ s.sensors.endActive = false ∧
        s.sensors.startActive = false ∧
        s.transport.mode ∈ (if x.1 then [Mode.playing, .cue, .windFwd] else [.review, .windRev]) ∧
        s.transport.camMove = none ∧ s.transport.stopLimit = none ∧ s.servo.moving = true ∧
        s.requests.transportLane = some 2 ∧ s.requests.slots[(2 : Fin 16)] = some (req 1 [])) ∧
    (∀ s ∈ [State.reset, loaded, threaded .stopped, threaded .still],
      s.on = true ∧ s.transport.mode ∈ [Mode.empty, .loaded, .stopped, .still] ∧ s.transport.path = none ∧
        s.sensors.endActive = false) := by decide +kernel

/-- A run copy of half an hour, at `t` of its occurrence time. -/
def copyAt (role : Role) (t : Int) : RunCopy :=
  { State.reset.runOf ProgCfg.reset ⟨0, 0⟩ with role := role, duration := 30, anchorT := t, anchorUptime := 0 }

/-- Entry 3 runs, in ACTIVE. -/
def occurring (x : EntryState) (r : RunCopy) : State :=
  let s := active loaded
  { s with power.schedulerNeed := true }.setEntry 3
    { Entry.reset with owned.state := x, run := some r }

/-- Entry 3 holds the deck. -/
def deckHeld (m : Mode) (x : EntryState) (r : RunCopy) : State :=
  let s := { threaded m with
    transport.control := some 3, transport.owner := if m.records then .program 3 else .none
    tuner.owner := .record, tuner.holder := .program 3, tuner.base := some ⟨2000, 0, 1, false⟩
    power.schedulerNeed := true, scheduler.clockHanded := .host }
  s.setEntry 3 { Entry.reset with owned.state := x, owned.next := some ⟨0, 0⟩, run := some r }

/-- A goal is on its way, its request in flight in slot 2. -/
def onItsWay (g : Goal) (stage : Stage) (s : State) : State :=
  { inFlight s with transport.path := some ⟨g, stage, false, false⟩ }

/-- The tape's end on a path on its way: at rest in each mode, and with the housing move under way. -/
theorem test_tape_ends_on_the_way_hyps :
    (∀ x ∈ [(true, onItsWay .play .cam (moving .threading .half true none)),
        (true, onItsWay (.search .forward) .waitMove (moving .unthreading .housed false none)),
        (true, onItsWay (.record .long 0) .waitMove (moving .ejecting .eject false none)),
        (true, onItsWay .play .driving (running .still)),
        (true, onItsWay (.progRecord 3 .standard true) .drive (deckHeld .still .preroll (copyAt .holder 60))),
        (true, onItsWay (.progSpeed 3 .long) .driving (deckHeld .stopped .pending (copyAt .holder 60))),
        (true, onItsWay .resume .driving (threaded .recordPause)), (true, onItsWay .play .cam (active loaded)),
        (true, onItsWay .play .waitMove (moving .empty .housed true none)),
        (false, onItsWay (.search .reverse) .driving (threaded .still)),
        (false, onItsWay (.wind .reverse) .stopping (running .playing))],
      let t := after (if x.1 then .endSensorActive else .startSensorActive) x.2
      x.2.on = true ∧ x.2.position.locate = none ∧ x.2.sensors.endActive = false ∧
        x.2.sensors.startActive = false ∧ x.2.transport.path.isSome = true ∧
        x.2.transport.mode ∉ (if x.1 then [Mode.playing, .cue, .windFwd] else [.review, .windRev]) ∧
        x.2.transport.mode ≠ .recording ∧ x.2.requests.slots[(2 : Fin 16)] = some (req 1 []) ∧
        t.bytes 0x0140 28 = finishBytes (req 1 []) .failed (if x.1 then .atEnd else .atStart) [] ∧
        t.transport.path.map (·.goal) = (match x.2.transport.mode with
          | .loaded => none | .empty => some .house | .unthreading | .ejecting => some (.stop true)
          | _ => some (.stop false))) := by decide +kernel

/-- The end sensor in RECORDING under a program, and the scheduler as it is told. -/
theorem test_a_program_meets_the_tape_end_hyps :
    (let s := inFlight (deckHeld .recording .recording (copyAt .holder 60))
     s.on = true ∧ s.sensors.endActive = false ∧ s.transport.mode = .recording ∧ s.transport.owner = .program 3 ∧
       s.transport.control = some 3 ∧ s.transport.camMove = none ∧ s.transport.stopLimit = none ∧
       s.requests.transportLane = some 2 ∧ (after .endSensorActive s).run 3 = none ∧
       (after .endSensorActive s).bytes 0x014E 2 = [3, byteOf Reason.atEnd.code]) ∧
    (∀ x ∈ [(Mode.recording, EntryState.recording), (.still, .preroll), (.recordPause, .labelPaused)],
      let s := deckHeld x.1 x.2 (copyAt .holder 60)
      s.run 3 = some (copyAt .holder 60) ∧ (copyAt .holder 60).role = .holder ∧ (s.entry 3).owned.state = x.2 ∧
        s.transport.owner ≠ .manual) ∧
    (∀ m, m ≠ 3 → (deckHeld .recording .recording (copyAt .holder 60)).run m = none) := by decide +kernel

/-- A STOP ends at FULL, with the cam there and at its arrival, and where a move under way ends. -/
theorem test_stops_end_hyps :
    (∀ y ∈ [inFlight (threaded .stopped), inFlight (deckHeld .stopped .pending (copyAt .holder 60)), threaded .stopped,
        { deckHeld .stopped .pending (copyAt .holder 60) with transport.order := some (.take 3) }],
      let s := { y with transport.path := some ⟨.stop false, .cam, false, false⟩, sensors.cam := .at .full }
      let u := { s with transport.camMove := some ⟨.full, false, 90000⟩, sensors.cam := .between .full }
      s.transport.mode ∈ [Mode.stopped, .threading] ∧ s.transport.camMove = none ∧ u.on = true ∧
        s.pathStep.isSome = true ∧
        (y.requests.transportLane = some 2 → s.requests.slots[(2 : Fin 16)] = some (req 1 []) ∧
          (after (.camMoveArrival .full) u).bytes 0x0140 28 = finishBytes (req 1 []) .done .none [])) ∧
    (∀ x ∈ [(Mode.unthreading, CamPos.half, Mode.stopped), (.unthreading, .housed, .loaded),
        (.ejecting, .eject, .empty)],
      let s := inFlight (moving x.1 x.2.1 false (some ⟨.stop true, .waitMove, false, false⟩))
      let t := after (.camMoveArrival x.2.1) s
      s.on = true ∧ s.transport.camMove = some ⟨x.2.1, false, 90000⟩ ∧ s.position.locate = none ∧
        s.transport.stopLimit = none ∧ s.servo.moving = false ∧ t.transport.mode = x.2.2 ∧
        t.transport.path = none ∧ t.bytes 0x0140 28 = finishBytes (req 1 []) .done .none []) ∧
    (let s := moving .unthreading .housed false (some ⟨.unthread, .cam, false, false⟩)
     s.on = true ∧ s.transport.camMove = some ⟨.housed, false, 90000⟩ ∧
       (after (.camMoveArrival .housed) s).transport.mode = .loaded) := by decide +kernel

theorem test_TransportTimers_hyps :
    (let s := { threaded .still with transport.still := some 9 }
     s.on = true ∧ s.transport.still.isSome = true ∧ s.transport.mode = .still) ∧
    (∀ owner ∈ [RecOwner.manual, .program 0],
      let s := inFlight { threaded .recordPause with
        transport.still := some 9, transport.owner := owner, tuner.owner := .record }
      s.on = true ∧ s.transport.still.isSome = true ∧ s.transport.mode = .recordPause ∧
        s.transport.owner = owner ∧ s.requests.transportLane = some 2) ∧
    (∀ x ∈ [(EntryState.pending, RecOwner.none), (.labelPaused, .program 3)],
      let s := { deckHeld .recordPause x.1 (copyAt .holder 60) with transport.still := some 9 }
      s.on = true ∧ s.transport.still.isSome = true ∧ s.transport.mode = .recordPause ∧
        s.transport.owner = .program 3 ∧ (s.entry 3).owned.state = x.1 ∧
        (after .stillTimeout s).transport.owner = x.2) ∧
    (let s := { threaded .stopped with transport.idle := some 9 }
     s.on = true ∧ s.transport.idle.isSome = true ∧ s.restsStopped = true ∧ s.servo.moving = false ∧
       s.transport.stopLimit = none ∧ s.transport.still = none ∧ s.transport.countdown = none) ∧
    (recordingFor 2).transport.countdown = some ⟨2, 60 * Config.hz⟩ ∧
    (let s := recordingFor 1
     s.on = true ∧ s.transport.countdown = some ⟨1, 60 * Config.hz⟩ ∧ s.transport.mode = .recording ∧
       s.transport.owner = .manual ∧ s.transport.camMove = none) ∧
    (∀ g ∈ [Goal.stop false, .play],
      let s := { threaded .stopped with
        transport.path := some ⟨g, .stopping, false, false⟩, transport.stopLimit := some 9 }
      s.on = true ∧ s.transport.path = some ⟨g, .stopping, false, false⟩ ∧ s.transport.stopLimit.isSome = true ∧
        g.runsDrum = decide (g = .play)) ∧
    (let s := { threaded .stopped with transport.path := some ⟨.unthread, .cam, false, false⟩ }
     s.transport.path = some ⟨.unthread, .cam, false, false⟩ ∧ Stage.cam ≠ .stopping) := by decide +kernel

/-- The capstan in a state, with a target and a reference. -/
def capstan (c : CapState) (t : CapTarget) (r : CapRef) : State := { threaded .playing with
  servo.cap := c, servo.capTarget := t, servo.capRef := r }

theorem test_entries_of_modes_hyps :
    (∀ g ∈ [Goal.play, .search .forward, .search .reverse, .resume, .still, .recPause, .record .long 0,
        .record .standard 480, .wind .reverse],
      let s := inFlight { threaded .still with
        transport.path := some ⟨g, .driving, false, false⟩, servo.capReached := true, servo.reelReached := true }
      s.transport.path = some ⟨g, .driving, false, false⟩ ∧ s.servo.capReached = true ∧
        s.servo.reelReached = true ∧ s.requests.transportLane = some 2 ∧ s.requests.tunerLane = none ∧
        s.requests.slots[(2 : Fin 16)] = some (req 1 []) ∧ s.position.locate = none ∧
        s.tuner.owner ≠ .scan ∧ (s.pathStep.map (·.transport.path)) = some none) ∧
    (let s := { threaded .stopped with
       sensors.cam := .at .half, transport.path := some ⟨.wind .reverse, .cam, false, false⟩ }
     s.transport.camMove = none ∧ s.power.supply = .ready ∧ s.servo.reel = .off ∧
       s.pathStep.map (·.transport.mode) = some .windRev) ∧
    (∀ g ∈ [Goal.still, .recPause],
      let s := { threaded .stopped with
        transport.path := some ⟨g, .drive, false, false⟩, servo.drum := .phaseLocked }
      s.transport.camMove = none ∧ s.power.supply = .ready ∧ s.transport.mode ≠ .still ∧
        s.transport.mode ≠ .recordPause ∧ s.servo.capTarget ≠ .hold ∧
        s.pathStep.map (·.transport.mode) = some (if g = .still then .still else .recordPause)) ∧
    (let s := { inFlight (capstan .speed .play .control) with
       servo.capIn := 7, servo.drum := .phaseLocked, servo.drumLocked := true, transport.mode := .still
       transport.path := some ⟨.play, .driving, false, false⟩ }
     (after (.capstanReferencePeriod true) s).transport.mode = .playing ∧
       (after (.capstanReferencePeriod true) s).requests.transportLane = none) := by decide +kernel

/-! ### Servo, tape, remaining -/

theorem test_DrumRevolutions_hyps :
    drumLocking.on = true ∧ (39200 ≤ 39200 ∧ 39200 ≤ 40800) ∧ ¬(39200 ≤ 39199 ∧ 39199 ≤ 40800) ∧
      (∀ x ∈ [(DrumState.spinningUp, 3, 0, 0, 0), (.spinningUp, 2, 0, 0, 0), (.speedLocked, 0, 0, 7, 0),
          (.speedLocked, 0, 0, 6, 0), (.speedLocked, 0, 3, 0, 0), (.phaseLocked, 0, 3, 0, 0),
          (.phaseLocked, 0, 0, 0, 3)],
        let s := { drumLocking with
          servo.drum := x.1, servo.drumRuns := ⟨x.2.1, x.2.2.1, x.2.2.2.1, x.2.2.2.2⟩ }
        s.on = true ∧ s.servo.drum = x.1 ∧ s.servo.drumRuns.bandIn = x.2.1) := by decide +kernel

theorem test_CapstanAndAutoSearch_hyps :
    (let s := { capstan .speed .hold .none with servo.holdAt := some 9, transport.mode := .stopped }
     s.transport.mode ≠ .playing ∧ s.transport.mode ≠ .cue ∧ s.transport.mode ≠ .review ∧ s.on = true ∧
       s.servo.holdAt.isSome = true ∧ s.servo.capTarget = .hold ∧ s.servo.capRef = .none) ∧
    (let s := { capstan .speed .play .control with servo.capIn := 7 }
     s.on = true ∧ s.servo.holdAt = none ∧ s.servo.capRef ≠ .none ∧ s.servo.cap = .speed ∧
       s.servo.capIn = 7 ∧ s.servo.detection = .none) ∧
    (let s := { capstan .phase .play .control with servo.capOut := 3 }
     s.on = true ∧ s.servo.capRef ≠ .none ∧ s.servo.cap = .phase ∧ s.servo.capOut = 3) ∧
    (let s := { capstan .speed (.search .forward) .none with servo.searchRun := 7 }
     s.on = true ∧ s.servo.capTarget = .search .forward ∧ s.servo.capReached = false ∧ s.servo.searchRun = 7 ∧
       980 * s.servo.searchSpeed.factor ≤ 3 * 327 ∧ 3 * 327 ≤ 1020 * s.servo.searchSpeed.factor ∧
       s.position.locate = none ∧ s.position.detector = none) ∧
    (∀ q ∈ [Detection.none, .full none 0],
      let s := { capstan .speed .play .none with servo.absentAt := some 9, servo.detection := q }
      s.on = true ∧ s.servo.absentAt.isSome = true ∧ s.servo.detection = q) ∧
    (∀ a ∈ [AutoSearch.idle, .pending], (a = .idle ∨ a = .pending)) ∧
    (∀ q ∈ [(⟨0, none, -56⟩ : SearchCtx), ⟨0, some (-56, 10), 48⟩, ⟨0, some (-8, 10), 8⟩, ⟨0, some (-56, 10), 56⟩],
      let s := { capstan .phase .play .control with servo.auto := .coarse q }
      s.on = true ∧ s.servo.auto = .coarse q) := by decide +kernel

theorem test_fine_trials_hyps :
    ∀ e ∈ [(FineStage.above, (3 : Nat), (55 : Int), AutoSearch.fine ⟨0, some (56, 9), 55⟩ 56 (.below 3)),
      (.below 9, 9, 56, .idle), (.below 10, 10, 58, .fine ⟨0, some (57, 10), 58⟩ 56 (.stepping true 2)),
      (.below 9, 10, 54, .fine ⟨0, some (55, 10), 54⟩ 56 (.stepping false 2)),
      (.stepping true 6, 10, 63, .fine ⟨0, some (55, 10), 63⟩ 56 (.stepping true 7)),
      (.stepping true 7, 10, 55, .idle), (.stepping false 2, 9, 56, .idle)],
      let s := { capstan .phase .play .control with servo.auto := .fine ⟨0, some (56, 9), 55⟩ 56 e.1 }
      s.on = true ∧ (after (.autoSearchTrialEnd e.2.1) s).servo.tracking = e.2.2.1 ∧
        (after (.autoSearchTrialEnd e.2.1) s).servo.auto = e.2.2.2 := by decide +kernel

theorem test_speed_detection_hyps :
    ∀ e ∈ [(Detection.full (some .long) 7, 16000, Detection.none), (.full (some .long) 7, 24001, .full none 0),
      (.full (some .long) 6, 24000, .full (some .long) 7), (.full (some .long) 7, 32000, .full (some .standard) 1),
      (.full none 0, 10700, .full (some .extended) 1), (.confirm 7 0, 48000, .none),
      (.confirm 6 0, 32000, .confirm 7 0),
      (.confirm 7 0, 48001, .confirm 0 1), (.confirm 0 7, 31999, .full none 0)],
      let s := { capstan .speed .play .control with servo.detection := e.1, servo.absentAt := some 9 }
      s.on = true ∧ s.position.locate = none ∧
        (after (.controlPulse .forward false e.2.1) s).servo.detection = e.2.2 ∧
        (after (.controlPulse .forward false e.2.1) s).servo.playSpeed
          = if e.1 = .full (some .long) 7 ∧ e.2.1 = 16000 then .long else .standard := by decide +kernel

theorem test_the_mismatch_watch_hyps :
    let s := { capstan .phase .play .control with transport.mode := .playing, servo.mismatchRun := 7 }
    s.on = true ∧ s.position.locate = none ∧ s.servo.detection = .none ∧ s.servo.blank = false ∧
      s.servo.capTarget = .play ∧ (after (.controlPulse .forward false 16000) s).servo.detection = .full none 0 ∧
      (after (.controlPulse .forward false 40000) s).servo.mismatchRun = 0 := by decide +kernel

/-- A run of the mark detector, forward from position 40. -/
def detecting (length : Nat) : State := { playing with
  position.counter := 40 + length, position.detector := some ⟨.forward, length, 40, false⟩ }

theorem test_runs_of_the_detector_hyps :
    (∀ n ∈ [1, 31, 32],
      (detecting n).on = true ∧ (detecting n).position.locate = none ∧ (detecting n).transport.mode ≠ .recording ∧
        (after (.controlPulse .forward true 40000) (detecting n)).position.detector
          = some ⟨.forward, n + 1, 40, false⟩) ∧
      (after (.controlPulse .forward false 40000) (detecting 31)).position.map = [] ∧
      (after (.controlPulse .forward false 40000) (detecting 32)).position.map = [⟨40, .seen, none⟩] ∧
      (after (.controlPulse .reverse true 40000) (detecting 32)).position.map = [⟨40, .seen, none⟩] ∧
      (after (.controlPulse .reverse true 40000) (detecting 32)).position.detector
        = some ⟨.reverse, 1, 72, false⟩ := by decide +kernel

theorem test_a_mark_between_two_entries :
    let p := { Position.reset with map := [⟨0, .seen, none⟩, ⟨120, .seen, none⟩] }
    p.map.Pairwise (fun e f => e.position < f.position) ∧ ((0 : Int) - 60).natAbs = ((120 : Int) - 60).natAbs ∧
      (p.enterMark 60 .written (some 2)).1.map = [⟨0, .written, some 2⟩, ⟨120, .seen, none⟩] ∧
      (p.enterMark 60 .seen none).1.map = p.map ∧
      (p.enterMark 220 .seen none).1.map = p.map ++ [⟨220, .seen, none⟩] := by decide +kernel

theorem test_ControlPulsesAndMarks_hyps :
    (∀ c ∈ [(0 : Int), 899999, -899999],
      let s := { playing with position.counter := c }
      s.on = true ∧ s.position.locate = none ∧ s.position.detector = none ∧ s.transport.mode ≠ .recording) ∧
    (let s := recordingFor 1
     s.transport.mode = .recording ∧ s.position.writer = .idle ∧ s.position.locate = none ∧
       s.position.detector = none) ∧
    (∀ w ∈ [MarkWriter.writing 0 (some 3) none, .writing 48 none (some 60), .writing 49 none (some 60)],
      let s := { recordingFor 1 with
        position.writer := w, position.counter := 100, position.map := [⟨60, .seen, none⟩] }
      s.on = true ∧ s.position.writer = w ∧ s.transport.mode = .recording ∧ s.position.locate = none ∧
        s.position.detector = none ∧
        (after (.controlPulse .forward false 40000) s).position.writer
          = (match w with
            | .writing 0 g _ => .writing 1 g (some 60)
            | .writing 48 g m => .writing 49 g m
            | _ => .idle)) ∧
    (let p := { Position.reset with map := [⟨0, .seen, none⟩] }
     (∀ e ∈ p.map, 100 ≤ (e.position - 100).natAbs) ∧ p.map.length < 24 ∧
       ((0 : Int) - 99).natAbs < 100 ∧ (⟨0, .seen, none⟩ : MapEntry) ∈ p.map ∧
       ∀ f ∈ p.map, f ≠ ⟨0, .seen, none⟩ → ((0 : Int) - 99).natAbs < (f.position - 99).natAbs) ∧
    (let p := { Position.reset with map := (List.range 24).map fun (i : Nat) => ⟨200 * i, .seen, none⟩ }
     (∀ e ∈ p.map, 100 ≤ (e.position - 100).natAbs) ∧ 24 ≤ p.map.length) := by decide +kernel

/-- A calculator with both measurements, at STANDARD pitch. -/
def measured (ks ku : Nat) : Remaining := { Remaining.reset with
  ks := some ⟨ks, 1⟩, ku := some ⟨ku, 1⟩, mInUse := 180 }

/-- The capstan over blank tape, the gap count stopped at the limit of EXTENDED. -/
def estimated (residue : Nat) (d : Dir) : Position := { Position.reset with
  source := .estimated, gap := 24, gapStopped := true, residue := residue, residueDir := d }

theorem test_tachometer_pulses_hyps :
    (∀ x ∈ [(22, Dir.forward), (23, .forward), (23, .reverse), (0, .reverse)],
      (estimated x.1 x.2).source = .estimated ∧ (estimated x.1 x.2).gapStopped = true) ∧
      ((estimated 22 .forward).tachPulse .forward 1).counter = 0 ∧
      ((estimated 23 .forward).tachPulse .forward 1).counter = 1 ∧
      ((estimated 23 .reverse).tachPulse .forward 1).residue = 1 ∧
      (∀ x ∈ [(70, 1), (71, 1), (34, 2), (35, 2), (22, 3), (23, 3)],
        let p := { Position.reset with gap := x.1 }
        p.gapStopped = false ∧ (p.tachPulse .reverse x.2).gapStopped = decide (72 / x.2 ≤ p.gap + 1)) := by
  decide +kernel

theorem test_ReelRotationPulses_hyps :
    (let s := { running .playing with transport.stall := some 9 }
     s.on = true ∧ s.position.locate = none ∧ s.position.detector = none ∧
       s.receivingReel = some .takeUp ∧ s.transport.stall.isSome = true ∧ s.receivingReel ≠ some .supply) ∧
    ((running .windFwd).servo.reel = .forward ∧ (running .windRev).servo.reel = .reverse) ∧
    (∀ x ∈ [(none, Mode.windFwd), (some (⟨3200, 2⟩ : Measure), .windFwd), (some ⟨3200, 2⟩, .windRev)],
      let s := { running x.2 with remaining.ku := x.1 }
      s.on = true ∧ s.position.locate = none ∧ s.position.detector = none ∧ s.position.pulseSinceRev = false ∧
        s.transport.mode = x.2 ∧ s.remaining.ku = x.1 ∧ s.position.source = .read) ∧
    (after (.reelRotationPulse .takeUp 0) { running .windRev with remaining.ku := some ⟨3200, 2⟩ }).position.counter
      = -100 ∧
    (running .playing).position.pulseSinceRev = false ∧
    (let s := { running .playing with position.pulseSinceRev := true }
     s.on = true ∧ s.position.pulseSinceRev = true) ∧
    (∀ r ∈ [Reel.supply, .takeUp],
      let v : Revolution := ⟨.forward, 1, 1, 0⟩
      let s := { running .windFwd with
        remaining := { (measured 3000 2000).compute.1 with supply := some v, takeUp := some v, interval := 9 } }
      s.on = true ∧ s.position.locate = none ∧ s.position.detector = none ∧ s.position.source = .read ∧
        s.remaining.revolution r = some v ∧ v.count = 0 ∧ s.factor = some 1 ∧
        (after (.reelRotationPulse r 9) s).remaining.ks = some ⟨3000, 1⟩ ∧
        s.remaining.fraction.isSome = true) := by decide +kernel

theorem test_MeasurementsAreNormalised_hyps :
    (∀ m ∈ [(⟨0, 1⟩ : Measure), ⟨8191, 1⟩, ⟨8191, 3⟩], 1 ≤ m.factor ∧ m.factor ≤ 3 ∧ m.value ≤ 8191) ∧
      (Remaining.reset.ks = none ∨ Remaining.reset.ku = none) ∧
      (∀ k ∈ [0, 5],
        let v : Revolution := ⟨.forward, 0, 1, k⟩
        let r := { Remaining.reset with supply := some v, takeUp := some v }
        r.revolution .supply = some v ∧ r.revolution .takeUp = some v ∧ v.count = k ∧
          v.measure (r.phase 7).1 (r.phase 7).2 ≤ 8191) := by decide +kernel

theorem test_TheFractionOfTheTape_hyps :
    ((measured 1360 1360).ks = some ⟨1360, 1⟩ ∧ (measured 1360 1360).compute.2 = false) ∧
    (∀ x ∈ [(1361, 1360), (1360, 1361), (3000, 2000), (1000, 3000)],
      (measured x.1 x.2).ks = some ⟨x.1, 1⟩ ∧ (measured x.1 x.2).ku = some ⟨x.2, 1⟩ ∧
        (measured x.1 x.2).compute.2 = true) ∧
    (⟨6000, 2⟩ : Measure).normal = (⟨3000, 1⟩ : Measure).normal ∧
    (∀ s ∈ [loaded, playing], s.transport.mode ≠ .faultHold ∧ s.transport.mode ≠ .empty ∧
      s.transport.mode ≠ .ejecting ∧ s.sensors.tabPresent = true ∧ s.sensors.dew = false) := by decide +kernel

theorem test_TheMinutesRemaining_hyps :
    (measured 3000 2000).compute.2 = true ∧ (measured 3000 2000).mInUse ≠ 0 ∧
      ({ measured 3000 2000 with mInUse := 0 } : Remaining).compute.2 = true ∧
      Remaining.reset.compute.2 = false ∧ 30 ≠ Remaining.reset.mInUse ∧ Remaining.reset.fraction = none ∧
      ({ measured 1 1 with fraction := some 512 } : Remaining).fraction = some 512 := by decide +kernel

/-! ### Tuner -/

theorem test_LockAndSyncReports_hyps :
    (∀ g ∈ [Signal.acquiring, .noLock, .locked, .sync],
      let s := tuned g
      s.on = true ∧ s.tuner.scan = none ∧ s.requests.tunerLane = none ∧ s.tuner.base.isSome = true ∧
        s.tuner.signal = g ∧ s.tuner.lockLimit.isSome = true) ∧
      State.reset.tuner.base = none ∧ State.reset.tuner.lockLimit = none := by decide +kernel

/-- The AFT running after some readings with a correction. -/
def centring (readings : Nat) (q : Int) : State := { tuned .locked with
  tuner.aft := .running, tuner.aftReady := true, tuner.readings := readings, tuner.correction := q }

theorem test_AftReadings_hyps :
    (∀ x ∈ [(0, (0 : Int)), (38, 16), (38, -16), (39, 0)],
      let s := centring x.1 x.2
      s.on = true ∧ s.tuner.scan = none ∧ s.requests.tunerLane = none ∧
        s.tuner.base = some ⟨2000, 0, 0, false⟩ ∧ s.tuner.aft = .running ∧ s.tuner.aftReady = true ∧
        s.tuner.readings = x.1) ∧
      AftReading.none ≠ .centre ∧ ((tuned .locked).tuner.aft ≠ .running) := by decide +kernel

/-- A scan at a step, in a phase. -/
def scanning (step : Nat) (p : ScanPhase) : State := { tuned .acquiring with
  tuner.owner := .scan, claims.engine := ⟨false, true, false⟩, power.hostNeed := false
  power.transportNeed := true
  tuner.scan := some ⟨false, step, p, some 9, step, none, 0⟩ }

theorem test_ScanSteps_hyps :
    (∀ x ∈ [(1343, ScanPhase.dwell), (14366, .dwell), (14367, .dwell), (1343, .codeWait)],
      let s := scanning x.1 x.2
      s.on = true ∧ s.tuner.scan = some ⟨false, x.1, x.2, some 9, x.1, none, 0⟩ ∧ s.power.hostNeed = false) ∧
      (scanning 1343 .codeWait).afterWrites.lowestUnused = some 1 ∧
      (scanning 1343 .codeWait).afterWrites.isDuplicate 1343 0 = false := by decide +kernel

/-- A scan's dwell with a signal. -/
def dwelling (g : Signal) : State :=
  let s := scanning 1343 .dwell
  { s with tuner := { s.tuner with signal := g } }

/-- A scan's AFT at a step after some readings, with a station code that has come or none. -/
def scanAft (step readings : Nat) (code : Option Nat) : State :=
  let s := scanning step .aft
  { s with tuner := { s.tuner with
      signal := .sync, aft := .running, aftReady := true, readings := readings
      scan := some ⟨false, step, .aft, none, step, code, 0⟩ } }

theorem test_phases_of_a_scan_hyps :
    (∀ g ∈ [Signal.acquiring, .noLock, .locked],
      let s := dwelling g
      s.on = true ∧ s.tuner.scan = some ⟨false, 1343, .dwell, some 9, 1343, none, 0⟩ ∧
        s.tuner.base.isSome = true ∧ s.requests.tunerLane = none ∧ s.tuner.signal = g) ∧
    ((after (.synthLock true) (dwelling .noLock)).tuner.scan.map (·.phase)) = some .aft ∧
    (∀ x ∈ [(1343, 38, none), (14366, 39, none), (14367, 39, none), (1343, 0, some 7)],
      let s := scanAft x.1 x.2.1 x.2.2
      s.on = true ∧ s.tuner.scan = some ⟨false, x.1, .aft, none, x.1, x.2.2, 0⟩ ∧ s.tuner.aft = .running ∧
        s.tuner.aftReady = true ∧ s.tuner.readings = x.2.1) ∧
    ((after (.aftReading .low) (scanAft 14366 39 none)).tuner.scan.map (·.step)) = some 14382 ∧
    (after (.aftReading .low) (scanAft 14367 39 none)).tuner.scan = none ∧
    ((after (.aftReading .centre) (scanAft 1343 0 none)).tuner.scan.map (·.phase)) = some .codeWait ∧
    ((after (.aftReading .centre) (scanAft 1343 0 (some 7))).tuner.scan.map (·.step)) = some 1375 := by
  decide +kernel

theorem test_station_codes_in_a_scan_hyps :
    let p : Packet := ⟨0x141, 0x100, 0x001, 0x100, 0x100, 0x100⟩
    let s := { scanAft 1343 0 none with decoder.powered := true }
    p.passes = true ∧ p.kind = 1 ∧ p.fragment = 0 ∧ payloadField p.payload 24 16 ≠ 0 ∧
      payloadField p.payload 24 16 ≠ s.decoder.code ∧ s.on = true ∧ s.tuner.signal = .sync ∧
      (s.tuner.scan.map (·.code)) = some none ∧ ((scanAft 1343 0 (some 7)).reportCode 8) = scanAft 1343 0 (some 7) ∧
      ((s.reportCode 8).tuner.scan.map (·.code)) = some (some 8) ∧
      (((scanning 1343 .codeWait).reportCode 8).tuner.scan.map (·.stored)) = some 1 := by decide +kernel

/-- Every preset but those of a list is in use, of divisor 3000 and station 9. -/
def usedBut (free : List Nat) (s : State) : State :=
  (presetNumbers.filter fun p => !free.contains p).foldl
    (fun s p => holds (Config.presetBase p) ([1, 0] ++ le16 3000 ++ le16 9) s) s

/-- A SCAN ADD with every preset in use, in QUIET and in ACTIVE for the host. -/
theorem test_a_scan_with_a_full_table_hyps :
    ∀ z ∈ [(Selection.none, false), (.direct 2000, true), (.preset 64, true)],
      let x := z.1
      let on := z.2
      let y := usedBut [] (if on then active loaded else loaded)
      let s := offer 12 [0] { y with tuner.selection := x }
      let t := after (.scan 0) s
      s.serves 0 0 (req 12 [0]) ∧ s.tuner.owner ≠ .record ∧ s.claims.host.presets = false ∧
        (s.taken 0 0 (req 12 [0])).lowestUnused = none ∧ s.requests.tunerLane = none ∧ s.tuner.scan = none ∧
        s.power.hostNeed = on ∧ (on = false → s.power.state = .quiet ∧ t.tuner.signal = .unpowered) ∧
        t.bytes 0x0100 28 = finishBytes (req 12 [0]) .done .none (le16 0 ++ le16 1 ++ le16 0) ∧
        t.tuner.owner = (if on then .view else .none) ∧
        (on = true → t.tuner.base.map (·.divisor) = (match x with
          | .none => none | .direct d => some d | .preset _ => some 3000)) := by
  unfold State.serves; decide +kernel

/-- The store: a duplicate by its divisor, and the first step of the grid above the centred divisor plus 24. -/
theorem test_the_store_of_a_scan_hyps :
    ∀ x ∈ [(1975, 2015), (1976, 2015), (2024, 2063), (2025, 2063), (1319, 1359)],
      let q : Scan := ⟨false, 1343, .codeWait, some 9, x.1, none, 0⟩
      let z := (presets false (scanning 1343 .codeWait)).scanStore q 0
      (z.tuner.scan.map fun c => (c.step, c.stored)) = some (x.2, if x.1 = 1976 ∨ x.1 = 2024 then 0 else 1) := by
  decide +kernel

/-- The store with the table full, before it or after it, past the range, and a duplicate by its station code. -/
theorem test_a_full_table_hyps :
    let q : Scan := ⟨false, 1343, .codeWait, some 9, 1343, none, 0⟩
    let s := scanning 1343 .codeWait
    (usedBut [] s).lowestUnused = none ∧ (usedBut [64] s).lowestUnused = some 64 ∧
      ((usedBut [64] s).scanStore q 0).tuner.scan = none ∧
      (usedBut [63, 64] s).isDuplicate 1343 9 = true ∧ (usedBut [63, 64] s).isDuplicate 1343 8 = false := by
  decide +kernel

theorem test_the_end_of_the_range_hyps :
    ∀ x ∈ [14342, 14343],
      let q : Scan := ⟨false, 1343, .codeWait, some 9, x, none, 0⟩
      ((scanning 1343 .codeWait).scanStore q 8).tuner.scan.isSome = (x == 14342) := by decide +kernel

/-! ### Line data -/

/-- The decoder reads packets, with a FIRST of sequence 15 pending. -/
def reading : State := { tuned .sync with decoder.pendingRec := some ⟨15, 0x1088000#40⟩ }

theorem test_LineData_hyps :
    (reading.on = true ∧ reading.decoder.powered = true ∧ reading.tuner.signal = .sync ∧
      reading.tuner.scan = none) ∧
    (State.reset.on = true ∧ State.reset.decoder.powered = false ∧ State.reset.decoder.window = none) ∧
    ((packet 0x000).parityOk = false ∧ (packet 0x001).kind = 0 ∧ (packet 0x001).parityOk = true ∧
      (packet 0x040).sequence = 0 ∧ (packet 0x040).parityOk = true) ∧
    (∀ x ∈ [(0x1D1, 3, 1), (0x0C1, 3, 0), (0x1E1, 3, 2), (0x0F1, 3, 3), (0x051, 1, 1), (0x091, 2, 1)],
      let p := packet (BitVec.ofNat 9 x.1)
      p.parityOk = true ∧ p.kind = x.2.1 ∧ p.fragment = x.2.2 ∧ p.sequence = 1) ∧
    (tuned .sync).decoder.pendingRec = none ∧
    (let p : Packet := ⟨0x141, 0x100, 0x001, 0x100, 0x100, 0x100⟩
     p.parityOk = true ∧ p.kind = 1 ∧ p.fragment = 0 ∧ p.sequence ≠ 0 ∧
       payloadField p.payload 24 16 ≠ 0) ∧
    (let p := packet 0x181
     p.parityOk = true ∧ p.kind = 2 ∧ p.fragment = 0 ∧ timeFields p.payload = none) ∧
    (let p : Packet := ⟨0x181, 0x100, 0x121, 0x100, 0x100, 0x100⟩
     p.parityOk = true ∧ p.kind = 2 ∧ p.fragment = 0 ∧ timeFields p.payload = some (0, 0) ∧
       reading.clock.autoSet = true ∧ reading.clock.suspended = false ∧ reading.clock.window = []) := by
  decide +kernel

theorem test_LineData_label_hyps :
    let last : Packet := ⟨0x0F1, 0x040, 0x100, 0x100, 0x100, 0x100⟩
    let bad : Packet := ⟨0x0F1, 0x1C0, 0x100, 0x100, 0x100, 0x100⟩
    (last.parityOk = true ∧ last.kind = 3 ∧ last.fragment = 3 ∧ last.sequence = nextSequence 15 ∧
      reading.decoder.pendingRec = some ⟨15, 0x1088000#40⟩ ∧
      joinLabel 0x1088000#40 last.payload = some ⟨1, 1, 1, 0, 0, .running, 0, 0⟩ ∧
      reading.tuner.stationCode = 0) ∧
    (bad.parityOk = true ∧ bad.sequence = nextSequence 15 ∧ joinLabel 0x1088000#40 bad.payload = none) ∧
    ((packet 0x0F2).parityOk = true ∧ (packet 0x0F2).sequence ≠ nextSequence 15) ∧
    (let s := { reading with tuner.stationCode := 2 }; s.tuner.stationCode ≠ 0 ∧ s.tuner.stationCode ≠ 1) ∧
    (let s := { reading with decoder.window := some 9, decoder.miss := 9 }
     s.on = true ∧ s.decoder.window = some 9 ∧ s.timeBase < 9 ∧ s.decoder.lost = false) ∧
    (let s := { reading with decoder.window := some 9, decoder.miss := 9, timeBase := 9 }
     s.on = true ∧ s.decoder.window = some 9 ∧ 9 ≤ s.timeBase ∧ s.decoder.lost = false) := by decide +kernel

/-- A TIME packet of 1980-01-01 00:00:00 and the decoder that reads it, with an earlier candidate. -/
def timing (earlier : Int) (calendar : Calendar) (state : ClockState) (implausible : Nat) : State :=
  { reading with clock := { reading.clock with
      window := [⟨earlier, 0⟩], calendar := calendar, state := state, implausible := implausible } }

theorem test_the_vote_hyps :
    let p : Packet := ⟨0x181, 0x100, 0x121, 0x100, 0x100, 0x100⟩
    let t := fun s => after (.timePacket p) s
    let far : Calendar := ⟨1, 0, 0⟩
    (∀ s ∈ [timing 0 ⟨0, 1, 0⟩ .host 1, timing 5 ⟨0, 1, 0⟩ .host 1, timing 0 far .host 1, timing 0 far .host 2,
        timing 0 far .unset 0, timing 0 ⟨0, 2, 0⟩ .host 1],
      s.on = true ∧ s.decoder.powered = true ∧ s.tuner.signal = .sync ∧ s.clock.autoSet = true ∧
        s.clock.suspended = false ∧ s.clock.seek = none) ∧
    p.parityOk = true ∧ p.sequence ≠ 0 ∧ p.kind = 2 ∧ p.fragment = 0 ∧ timeFields p.payload = some (0, 0) ∧
    (t (timing 0 ⟨0, 1, 0⟩ .host 1)).clock.implausible = 0 ∧
    (t (timing 5 ⟨0, 1, 0⟩ .host 1)).clock.window.length = 2 ∧
    (t (timing 0 far .host 1)).clock.implausible = 2 ∧ (t (timing 0 far .host 2)).clock.suspended = true ∧
    (t (timing 0 far .unset 0)).clock.state = .broadcast ∧
    (t (timing 0 ⟨0, 2, 0⟩ .host 1)).clock.calendar = ⟨0, 0, 0⟩ := by decide +kernel

/-! ### Clock and scheduler -/

/-- A calendar at a second of the last day of the range. -/
def lastDayAt (sec : Nat) (s : State) : State := { s with clock.calendar := ⟨Config.lastDay, sec, 0⟩ }

/-- The clock seeks with the tuner on preset 1. -/
def seeking : State := { State.reset with
  tuner.owner := .seek, tuner.seek := some 1, tuner.signal := .acquiring, decoder.powered := true
  clock.seek := some ⟨1, 9⟩ }

theorem test_SecondsAreCounted_hyps :
    (∀ s ∈ [State.reset, lastDayAt 86398 State.reset, lastDayAt 59 retained],
      s.transport.mode ≠ .recording ∧ s.clock.running = true ∧ s.clock.calendar.phase ≤ Config.hz ∧
        s.clock.calendar.seconds + 1 < rangeEnd) ∧
      State.reset.on = true ∧ retained.on = false ∧
      (let s := lastDayAt 86399 State.reset; rangeEnd ≤ s.clock.calendar.seconds + 1 ∧ s.on = true) ∧
      (let s := { State.reset with clock.running := false }; s.clock.running = false ∧ s.on = true) ∧
      State.reset.clock.seek = none ∧
      (seeking.on = true ∧ seeking.clock.seek.isSome = true ∧ seeking.tuner.seek.isSome = true ∧
        seeking.power.state = .quiet ∧ seeking.tuner.signal ≠ .unpowered) := by decide +kernel

theorem test_recorded_seconds_hyps :
    ∀ phase ∈ [0, Config.hz],
      let y := deckHeld .recording .recording (copyAt .holder 60)
      let s := { y with clock.running := true, clock.calendar := ⟨0, 5, phase⟩ }
      s.on = true ∧ s.transport.mode = .recording ∧ s.transport.owner = .program 3 ∧
        s.run 3 = some (copyAt .holder 60) ∧ s.clock.running = true ∧ s.clock.calendar.phase ≤ Config.hz ∧
        s.clock.calendar.seconds + 1 < rangeEnd ∧
        ((after .secondComplete s).run 3).map (·.seconds) = some (if phase = 0 then 1 else 0) := by decide +kernel

theorem test_OccurrenceEvents_hyps :
    State.reset.run 3 = none ∧
    (let r := copyAt .waiter 0
     let s := occurring .preroll r
     s.on = true ∧ s.run 3 = some r ∧ r.startTaken = false ∧ 0 ≤ s.time r ∧ r.role = .waiter ∧
       (s.entry 3).owned.state = .preroll ∧ s.claims.host.programs = false ∧
       s.claims.host.presets = false) ∧
    (let r := { copyAt .holder 14400 with labelMode := true }
     let s := occurring .recording r
     s.on = true ∧ s.run 3 = some r ∧ r.windowTaken = false ∧ r.windowEnd ≤ s.time r ∧ r.labelMode = true ∧
       (s.entry 3).owned.state = .recording) ∧
    (let r := copyAt .waiter 1800
     let s := occurring .pending r
     s.on = true ∧ s.run 3 = some r ∧ r.windowTaken = false ∧ r.windowEnd ≤ s.time r ∧ r.role = .waiter ∧
       (s.entry 3).owned.state ≠ .recording ∧ (s.entry 3).owned.state ≠ .interrupted) ∧
    (let r := { copyAt .holder 60 with endTimer := some 9 }
     let s := occurring .labelPaused r
     s.on = true ∧ s.run 3 = some r ∧ r.role = .holder ∧ r.endTimer.isSome = true ∧
       (∀ m, m ≠ 3 → s.run m = none)) := by decide +kernel

/-- Entry 5 waits for preset 1. -/
def waits (s : State) : State :=
  (presets false s).setEntry 5
    { Entry.reset with owned.state := .pending, run := some { copyAt .waiter 60 with preset := 1 } }

theorem test_closes_of_the_holder_hyps :
    (∀ x ∈ [(Mode.still, EntryState.preroll), (.stopped, .pending), (.recordPause, .waitingLabel),
        (.recordPause, .labelPaused), (.recording, .recording)],
      let r := { copyAt .holder 1800 with endTimer := some 9 }
      ∀ s ∈ [deckHeld x.1 x.2 r, waits (deckHeld x.1 x.2 r)],
        s.on = true ∧ s.run 3 = some r ∧ r.windowTaken = false ∧ r.windowEnd ≤ s.time r ∧ r.role = .holder ∧
          r.labelMode = false ∧ r.endTimer.isSome = true ∧ s.transport.control = some 3 ∧
          s.tuner.owner = .record ∧ s.transport.owner ≠ .manual ∧ s.power.schedulerNeed = true ∧
          s.power.state = .active ∧ s.requests.transportLane = none ∧ s.transport.camMove = none) ∧
    (∀ m, m ≠ 3 → (deckHeld .still .preroll (copyAt .holder 1800)).run m = none) ∧
    (let s := waits (deckHeld .stopped .pending (copyAt .holder 1800))
     (s.run 5).isSome = true ∧ (∀ k, k ≠ 3 → k ≠ 5 → s.run k = none) ∧ (s.entry 5).owned.state = .pending ∧
       s.afterWrites.presetInUse 1 = true ∧ s.transport.mode ≠ .recording ∧
       (after (.windowEnd 3) s).transport.control = some 5) ∧
    (let t := after (.windowEnd 3) (deckHeld .recording .recording (copyAt .holder 1800))
     t.transport.control = none ∧ t.transport.mode = .stopped ∧ t.tuner.owner = .view ∧ t.run 3 = none) := by
  decide +kernel

/-- The label of the occurrence of 1980-01-01 00:00, or another, with a status. -/
def label (own : Bool) (st : LabelStatus) : LabelRecord := ⟨1, if own then 1 else 2, 1, 0, 0, st, 90, 0⟩

/-- A holder under LABEL control. -/
def following (m : Mode) (x : EntryState) (matched : Bool) (t : Int) : State :=
  deckHeld m x { copyAt .holder t with labelMode := true, matched := matched }

theorem test_labels_hyps :
    (∀ x ∈ [(EntryState.waitingLabel, false), (.preroll, false), (.labelPaused, true), (.recording, true)],
      ∀ t ∈ [(60 : Int), 1800],
      let s := following .recordPause x.1 x.2 t
      s.holder = some 3 ∧ (s.run 3).isSome = true ∧ s.transport.mode ≠ .recording ∧
        s.scheduler.clockHanded ≠ .unset ∧ (s.entry 3).owned.state = x.1) ∧
    (let s := following .recordPause .waitingLabel false 60
     s.labelIsOf 3 (label true .running) = true ∧ s.labelIsOf 3 (label false .running) = false ∧
       (s.recordHanded (label true .running) false).transport.order = some (.record 3 .standard true) ∧
       (s.lostHanded none).transport.order = some (.record 3 .standard true) ∧
       ((following .recordPause .labelPaused true 1800).lostHanded (some (label true .running))).run 3 = none) ∧
    (let s := following .recording .recording true 60
     s.holder = some 3 ∧ (s.entry 3).owned.state = .recording ∧
       (s.recordHanded (label true .interrupted) false).transport.order = some (.hold 3) ∧
       (s.recordHanded (label false .running) false).run 3 = none) := by decide +kernel

/-- LOST to a holder in RECORDING, with a record and with none. -/
theorem test_lost_in_recording_hyps :
    let s := following .recording .recording true 60
    ∀ r, s.run 3 = some r → s.holder = some 3 ∧ r.labelMode = true ∧ (s.entry 3).owned.state = .recording ∧
      s.time r < r.stop ∧
      ∀ c ∈ [none, some (label true .interrupted)],
        (s.lostHanded c).run 3 = some { r with
          lastLabel := (match c with | some x => some x | none => r.lastLabel)
          lostSeen := true, endTimer := none, labelMode := false } := by
  intro s r h
  cases h
  decide +kernel

theorem test_lost_brings_its_record :
    ((following .recordPause .waitingLabel false 60).lostHanded (some (label true .running))).run 3
        = some { copyAt .holder 60 with
            lastLabel := some (label true .running), lostSeen := true } ∧
      (let s := following .recordPause .waitingLabel false 1800
       s.holder = some 3 ∧ (s.run 3).isSome = true ∧ s.transport.mode ≠ .recording ∧
         s.scheduler.clockHanded ≠ .unset ∧
         (s.lostHanded (some (label true .running))).labelRuns 3
           { copyAt .holder 1800 with lastLabel := some (label true .running), lostSeen := true } = false) := by
  decide +kernel

/-- Entry 3 holds the deck with a RECORD order in flight as the clock becomes UNSET. -/
def unsetting (m : Mode) (x : EntryState) : State := { deckHeld m x (copyAt .holder 60) with
  transport.order := some (.record 3 .standard true)
  transport.path := some ⟨.progRecord 3 .standard true, .driving, false, true⟩, clock.state := .unset }

theorem test_the_clock_becomes_unset_hyps :
    ∀ x ∈ [(Mode.still, EntryState.preroll, true), (.stopped, .pending, true), (.stopped, .pending, false),
        (.recordPause, .waitingLabel, true), (.recordPause, .labelPaused, true)],
      let s := { unsetting x.1 x.2.1 with sensors.tabPresent := x.2.2 }
      s.clock.state = .unset ∧ s.holder = some 3 ∧ s.run 3 = some (copyAt .holder 60) ∧
        s.transport.order = some (.record 3 .standard true) ∧ (s.entry 3).owned.state = x.2.1 ∧
        s.takeable = x.2.2 ∧ s.noticeHanded.run 3 = some { copyAt .holder 60 with miss := .clockStep } ∧
        s.noticeHanded.transport.path.map (·.goal)
          = some (if x.1 = .recordPause then .progHold 3 else if x.2.2 then .still else .stop false) := by
  decide +kernel

theorem test_nothing_held_back_hyps :
    (let s := { loaded with clock.state := .unset }
     s.clock.state = .unset ∧ s.holder = none) := by decide +kernel

theorem test_the_budget_hyps :
    let r := { copyAt .holder 0 with autoSpeed := true }
    let s := { deckHeld .recording .recording r with
      remaining.rS := some 30, remaining.rL := some 60 }
    s.run 3 = some r ∧ s.remaining.atSpeed r.speed = some 30 ∧ r.changes < 2 ∧ r.holdOff = none ∧
      s.transport.order = none ∧ r.speed ≠ .extended ∧ s.required r = 30 ∧
      (s.budget 3 r).transport.order = some (.speed 3 .long) ∧
      ({ s with remaining.rS := some 31 }).budget 3 r = { s with remaining.rS := some 31 } := by decide +kernel

/-- Entry 7 is ARMED for 1980-01-01 00:30 and due, with preset 1. -/
def armed (s : State) : State :=
  let c : ProgCfg := { ProgCfg.reset with
    program := true, enable := true, preset := 1, year := 1980, month := 1, day := 1
    startMinute := 30, stopHour := 1 }
  { (presets false s).setEntry 7 { copy := c, owned := { Owned.reset with
      state := .armed, next := some ⟨0, 30⟩ }, run := none } with
    scheduler.due := [7], scheduler.clockHanded := .host }

/-- The same at a second of the day. -/
def armedAt (sec : Nat) (s : State) : State := { armed s with clock.calendar := ⟨0, sec, 0⟩ }

theorem test_ProgramsTakeTheDeck_hyps :
    (∀ s ∈ [armedAt 1740 loaded, armedAt 1800 loaded, armedAt 1740 (recordingFor 2),
        armedAt 1740 (deckHeld .stopped .pending (copyAt .holder 60))],
      s.prerolls 7 = true ∧ (s.entry 7).owned.next = some ⟨0, 30⟩ ∧ s.claims.host.programs = false ∧
        s.claims.host.presets = false ∧ s.presetInUse (s.entry 7).copy.preset = true) ∧
    (armedAt 1740 loaded).transport.owner ≠ .manual ∧ (∀ m, m ≠ 7 → (armedAt 1740 loaded).run m = none) ∧
    (armedAt 1740 (recordingFor 2)).transport.owner = .manual ∧
    (((armedAt 1740 loaded).preroll 7).entry 7).owned.state = .preroll ∧
    (((armedAt 1800 loaded).preroll 7).entry 7).owned.state = .pending ∧
    ((armedAt 1740 (recordingFor 2)).preroll 7).transport.control = none ∧
    (armedAt 1740 (recordingFor 2)).nextHolder = none ∧
    (waits loaded).nextHolder = some 5 ∧ (waits loaded).candidate 5 = true := by decide +kernel

theorem test_orders_hyps :
    (∀ s ∈ [threaded .stopped, running .playing, running .recording],
      s.requests.transportLane = none ∧ s.goalIs (· == .rest) = false ∧ s.takeable = true) ∧
    (let s := { running .playing with sensors.tabPresent := false }
     s.requests.transportLane = none ∧ s.goalIs (· == .rest) = false ∧ s.takeable = false ∧
       s.transport.mode ∈ [Mode.playing, .cue]) ∧
    (∀ m ∈ [Mode.threading, .stopped, .still],
      let s := { threaded m with
        sensors.tabPresent := false, transport.path := some ⟨.play, .cam, false, false⟩ }
      s.requests.transportLane = none ∧ s.goalIs (· == .rest) = false ∧ s.takeable = false ∧
        Goal.play.runsDrum = true ∧ (s.orderTake 3).transport.path.map (·.goal) = some (.stop false)) ∧
    (running .recording).transport.mode = .recording ∧ (threaded .stopped).transport.mode ≠ .recording ∧
    (threaded .faultHold).transport.mode = .faultHold ∧ (threaded .faultHold).takeable = false := by decide +kernel

theorem test_advance_hyps :
    (∀ s ∈ [deckHeld .still .preroll (copyAt .holder (-30)), deckHeld .stopped .pending (copyAt .holder 0),
        following .loaded .pending false 0],
      (s.run 3).any (·.role == .holder) = true ∧ s.writesFor 3 = false ∧ s.blocker = none ∧
        s.scheduler.clockHanded ≠ .unset ∧ s.transport.order = none) ∧
    (let s := { deckHeld .stopped .pending (copyAt .holder 0) with sensors.dew := true }; s.blocker = some .dew) ∧
    (let s := { deckHeld .stopped .pending (copyAt .holder 0) with scheduler.clockHanded := .unset }
     s.blocker = none ∧ s.scheduler.clockHanded = .unset) ∧
    (let s := { deckHeld .stopped .pending (copyAt .holder 0) with transport.order := some (.take 3) }
     s.blocker = none ∧ s.transport.order.isSome = true) ∧
    (let r := copyAt .holder 60
     let s := deckHeld .recording .recording r
     s.run 3 = some r ∧ r.role = .holder ∧ s.writesFor 3 = true ∧ s.blocker = none ∧
       s.transport.order = none ∧ s.scheduler.clockHanded ≠ .unset) ∧
    (let s := { waits (running .recording) with
       tuner.base := some ⟨2000, 0, 1, false⟩, scheduler.clockHanded := .host }
     s.holder = none ∧ s.transport.owner ≠ .manual ∧ s.nextHolder = some 5 ∧ (s.run 5).isSome = true ∧
       s.transport.mode = .recording ∧ s.requests.transportLane = none ∧ s.presetInUse 1 = true ∧
       s.tuner.base = some ⟨2000, 0, 1, false⟩ ∧ s.scheduler.clockHanded ≠ .unset ∧
       (s.afterHolder true false).transport.owner = .program 5) := by decide +kernel

theorem test_TheProgramTable_hyps :
    (let s := armedAt 1740 loaded
     s.nextStart (s.entry 7).copy none = some ⟨0, 30⟩ ∧ s.nextStart (s.entry 7).copy (some 0) = none ∧
       s.checkCfg (s.entry 7).copy none = ⟨.armed, .none, some ⟨0, 30⟩⟩ ∧
       s.checkCfg ProgCfg.reset none = ⟨.unused, .none, none⟩) ∧
    (let s := { armedAt 3600 loaded with clock.state := .host }
     s.scheduler.clockHanded ≠ .unset ∧ (s.entry 7).owned.state = .armed ∧
       ((s.stepHanded 1700 3600).entry 7).owned.outcome.code = 16 ∧
       ((s.stepHanded 1700 3599).entry 7).owned.outcome.code = 0) ∧
    (let s := { armedAt 1900 loaded with clock.state := .host, scheduler.clockHanded := .unset }
     s.scheduler.clockHanded = .unset ∧ s.claims.host.programs = false ∧ s.claims.host.presets = false ∧
       (s.stepHanded 0 1900).prerollOnTime.entry 7 = (s.stepHanded 0 1900).entry 7) ∧
    (let s := { presets false loaded with
       clock := { Clock.reset with calendar := ⟨5, 3 * 3600 + 59, 0⟩, seekHour := 3, timePreset := 1 } }
     s.power.state = .quiet ∧ s.clock.autoSet = true ∧ s.clock.suspended = false ∧ s.clock.timePreset ≠ 0 ∧
       s.clock.calendar.sec / 3600 = s.clock.seekHour ∧ s.clock.lastSeek ≠ some s.clock.calendar.day ∧
       s.clock.seek = none ∧ s.tuner.owner = .none ∧ s.presetInUse 1 = true ∧
       s.seekTest.tuner.owner = .seek ∧ ({ s with power.state := .active }).seekTest.tuner.owner = .none) := by
  decide +kernel

theorem test_OutcomeCodes_hyps :
    (copyAt .holder 0).segments = 0 ∧ EndCause.window ≠ .host ∧
      (∀ m ∈ [MissCause.noTape, .writeProtect, .dew, .busy, .tapeFull, .fault, .none, .power, .label, .clockStep],
        ({ copyAt .holder 0 with miss := m } : RunCopy).miss = m) ∧
      (let r := { copyAt .holder 0 with segments := 1, powerGap := true }; r.segments ≠ 0 ∧ r.powerGap = true) ∧
      (let r := { copyAt .holder 0 with segments := 1, late := 1 }
       r.segments ≠ 0 ∧ r.powerGap = false ∧ 0 < r.late) ∧
      (let r := { copyAt .holder 0 with segments := 1 }; r.segments ≠ 0 ∧ r.powerGap = false ∧ r.late = 0) ∧
      (let r := { copyAt .holder 0 with seconds := 59 }; r.segments = 0 ∧ r.seconds < 60) := by decide +kernel

/-! ### Power -/

/-- The reset line asserted. -/
def lineHeld (s : State) : State := { s with power.lineSeen := true, power.lineAsserted := true }

theorem test_PowerEvents_hyps :
    (State.reset.on = true ∧ State.reset.power.settle = none ∧ State.reset.power.mainsPresent = true ∧
      State.reset.claims.host.programs = false ∧ State.reset.power.lineAsserted = false) ∧
    (let s := { State.reset with power.settle := some 9 }; s.on = true ∧ s.power.settle.isSome = true) ∧
    (retained.power.mainsPresent = false ∧ retained.power.state = .retain ∧ retained.on = false) ∧
    ((lineHeld retained).power.mainsPresent = false ∧ (lineHeld retained).power.lineAsserted = true) ∧
    (let s := lineHeld loaded
     s.power.mainsPresent = true ∧ s.on = false ∧
       (after (.mainsFailWarning true) s).bytes (Config.groupSpan 5).1 1 = [2] ∧
       (after (.mainsFailWarning true) s).power.retentionLost = true) := by decide +kernel

/-- R21, R31: the safe stop, at the warning and at the reset line, out of FAULT_HOLD, with a SERVO_FAIL that no
FAULT_HOLD holds, and out of RECORDING on received sync. -/
theorem test_safe_stops_hyps :
    ∀ c ∈ [Instr.mainsFailWarning false, .resetLineAssert],
      (let s := { threaded .faultHold with transport.fault := .mechJam }
       s.on = true ∧ s.power.mainsPresent = true ∧ (after c s).transport.mode = .stopped ∧
         (after c s).transport.fault = .none) ∧
      (let s := { threaded .stopped with transport.fault := .servoFail }
       s.on = true ∧ (after c s).transport.fault = .servoFail) ∧
      (let s := { running .recording with servo.drumRef := .sync }
       s.on = true ∧ (after c s).servo.drumRef = .internal) := by decide +kernel

/-- Entry 3 in deck memory, a program, enabled or not, in a state. -/
def entryHeld (enabled : Bool) (o : Owned) (s : State) : State :=
  holds (Config.entryBase 3)
    ([if enabled then 3 else 1, 1, 188, 7, 1, 1, 0, 30, 1, 0, 0, 0] ++ o.image) s

theorem test_the_warning_interrupts_hyps :
    ∀ x ∈ [(false, false), (true, true), (true, false)],
      let r := { copyAt .holder 60 with endTimer := some 9, holdOff := some 5 }
      let s := { entryHeld x.2 Owned.reset (deckHeld .recording .recording r) with claims.host.programs := x.1 }
      s.on = true ∧ s.power.mainsPresent = true ∧ s.run 3 = some r ∧ s.run 4 = none ∧
        ((s.endWrites.progCfg 3).program && (s.endWrites.progCfg 3).enable) = x.2 ∧
        (after (.mainsFailWarning false) s).run 3 = (if x = (true, false) then none else
          some { r with powerGap := true, newStart := true, miss := .power, endTimer := none, holdOff := none
                        role := .waiter }) := by decide +kernel

/-- Deck memory keeps entry 3 of half an hour in a state, through RETAIN for some seconds. -/
def resuming (enabled : Bool) (x : EntryState) (seconds : Nat) : State :=
  let s := entryHeld enabled { Owned.reset with state := x, next := some ⟨0, 30⟩ } (presets false retained)
  { holds (Config.runRecordBase 3) { copyAt .waiter 0 with preset := 1 }.image s with
    timeBase := seconds * Config.hz, clock.calendar := ⟨0, 1800 + seconds, 0⟩, sensors.cam := .at .housed }

theorem test_StartsByKind_hyps :
    (∀ s ∈ [retained, { retained with power.retentionLost := true }, { retained with power.lineSeen := true },
        { retained with power.retentionLost := true, power.lineSeen := true }],
      s.power.mainsPresent = false ∧ s.power.lineAsserted = false) ∧
    (let s := lineHeld loaded
     s.power.mainsPresent = true ∧ s.power.lineAsserted = true ∧ s.sensors.cam.base ≠ .eject) := by
  decide +kernel

/-- The scheduler's part of a start. -/
def started (k : StartKind) (s : State) : State := (s.startBlocks k .parallel).startScheduler k

theorem test_entries_at_a_warm_start_hyps :
    ((resuming true .recording 1799).byteNat (Config.entryBase 3 + 12) % 16 = 7 ∧
      (resuming true .recording 1799).power.mainsPresent = false) ∧
    (let t := started .warm (resuming true .recording 1799)
     (t.entry 3).owned.state = .pending ∧ (t.run 3).any (·.role == .holder) = true ∧ t.power.schedulerNeed = true) ∧
    (let t := started .warm (resuming true .recording 1800)
     t.run 3 = none ∧ (t.entry 3).owned.outcome.code = 13) ∧
    (let t := started .warm (resuming false .recording 1799)
     t.run 3 = none ∧ (t.entry 3).owned.outcome.code = 7) := by decide +kernel

theorem test_armed_entries_at_a_warm_start_hyps :
    ((started .warm (resuming true .armed 1800)).entry 3).owned.outcome.code = 14 ∧
      ((started .warm (resuming true .armed 1799)).entry 3).owned.outcome.code = 0 := by decide +kernel

theorem test_entries_at_a_line_start_hyps :
    (let t := started .line (resuming true .interrupted 1799)
     t.run 3 = none ∧ (t.entry 3).owned.outcome.code = 17) ∧
    ((started .line (resuming true .armed 1800)).entry 3).owned.outcome.code = 0 := by decide +kernel

theorem test_entries_at_a_cold_start_hyps :
    ((started .cold (resuming true .recording 9).coldMemory).entry 3).owned = Owned.reset := by decide +kernel

end Sys2Proof.Tests
end

section
/-! SUPPORT. The remaining calculator's computation (R69 to R72): the fraction in the spec's integers, the minutes at
a speed, what a computation and a new length come to; with them the statements of chapter 4. -/
namespace Sys2Proof.Machine

/-! ### The fraction (R70) -/

theorem fractionNum_eq (as : Nat) :
    (fractionNum as : Int) = if as < 1360 then 0 else (as : Int) * as - 1849600 := by
  have hub : hubSquare = 1360 * 1360 := rfl
  unfold fractionNum
  split
  · next below =>
    have := Nat.mul_le_mul below.le below.le
    omega
  · next atLeast =>
    have := Nat.mul_le_mul (Nat.le_of_not_lt atLeast) (Nat.le_of_not_lt atLeast)
    push_cast [hub, Nat.cast_sub this]
    ring

theorem fractionNum_of_le_hub {as : Nat} (h : as ≤ 1360) : fractionNum as = 0 :=
  Nat.sub_eq_zero_of_le (Nat.mul_le_mul h h)

theorem fractionDen_eq (as au : Nat) :
    fractionDen as au = (as : Int) * as + (au : Int) * au - 2 * 1849600 := by
  simp [fractionDen, hubSquare, Config.hubCircumference]

/-- With the take-up reel at the hub or below, what is left of the denominator is at most the numerator. -/
theorem fractionDen_le_fractionNum {as au : Nat} (h : au ≤ 1360) : fractionDen as au ≤ fractionNum as := by
  have := Nat.mul_le_mul h h
  simp only [fractionDen, fractionNum, hubSquare, Config.hubCircumference]
  omega

theorem fractionOf_of_den_nonpos {as au : Nat} (h : fractionDen as au ≤ 0) : fractionOf as au = none :=
  if_pos h

/-- The quotient on natural numbers is the spec's, on integers. -/
theorem fractionOf_of_den_pos {as au : Nat} (h : 0 < fractionDen as au) :
    ∃ f : Nat, fractionOf as au = some f ∧ (f : Int) = min 1024 (1024 * fractionNum as / fractionDen as au) := by
  refine ⟨_, if_neg h.not_ge, ?_⟩
  push_cast [Int.toNat_of_nonneg h.le]
  rfl

theorem fractionOf_eq_some {as au f : Nat} (h : fractionOf as au = some f) :
    0 < fractionDen as au ∧ (f : Int) = min 1024 (1024 * fractionNum as / fractionDen as au) := by
  rcases le_or_gt (fractionDen as au) 0 with nonpos | pos
  · simp [fractionOf_of_den_nonpos nonpos] at h
  · obtain ⟨g, hg, value⟩ := fractionOf_of_den_pos pos
    obtain rfl : g = f := Option.some.inj (hg.symm.trans h)
    exact ⟨pos, value⟩

theorem fractionOf_le {as au f : Nat} (h : fractionOf as au = some f) : f ≤ 1024 := by
  obtain ⟨-, value⟩ := fractionOf_eq_some h
  omega

theorem fractionOf_full {as au f : Nat} (h : fractionOf as au = some f) (full : au ≤ 1360) : f = 1024 := by
  obtain ⟨pos, value⟩ := fractionOf_eq_some h
  have quotient : 1024 ≤ 1024 * (fractionNum as : Int) / fractionDen as au :=
    (Int.le_ediv_iff_mul_le pos).2 (Int.mul_le_mul_of_nonneg_left (fractionDen_le_fractionNum full) (by decide))
  omega

theorem fractionOf_empty {as au f : Nat} (h : fractionOf as au = some f) (empty : as ≤ 1360) : f = 0 := by
  obtain ⟨-, value⟩ := fractionOf_eq_some h
  simpa [fractionNum_of_le_hub empty] using value

/-! ### The minutes (R71) -/

@[simp] theorem minutesLeft_undeclared (f : Option Nat) (m : Nat) : minutesLeft 0 f m = none := rfl

@[simp] theorem minutesLeft_unknown (length m : Nat) : minutesLeft length none m = none := by
  simp [minutesLeft]

theorem minutesLeft_declared {length : Nat} (h : length ≠ 0) (f m : Nat) :
    minutesLeft length (some f) m = some (length * f * m / 1024) :=
  if_neg h

/-- The whole cassette's minutes at a factor bound those left. -/
theorem minutes_le_whole {f : Nat} (h : f ≤ 1024) (length m : Nat) : length * f * m / 1024 ≤ length * m := by
  apply Nat.div_le_of_le_mul
  calc length * f * m = f * (length * m) := by ring
    _ ≤ 1024 * (length * m) := Nat.mul_le_mul_right _ h

@[simp] theorem Remaining.minutes_fraction (r : Remaining) : r.minutes.fraction = r.fraction := rfl
@[simp] theorem Remaining.minutes_last (r : Remaining) : r.minutes.last = r.last := rfl
@[simp] theorem Remaining.minutes_mInUse (r : Remaining) : r.minutes.mInUse = r.mInUse := rfl
@[simp] theorem Remaining.minutes_rS (r : Remaining) : r.minutes.rS = minutesLeft r.mInUse r.fraction 1 := rfl
@[simp] theorem Remaining.minutes_rL (r : Remaining) : r.minutes.rL = minutesLeft r.mInUse r.fraction 2 := rfl
@[simp] theorem Remaining.minutes_rE (r : Remaining) : r.minutes.rE = minutesLeft r.mInUse r.fraction 3 := rfl

theorem Remaining.setLength_changed {r : Remaining} {m : Nat} (h : m ≠ r.mInUse) :
    r.setLength m = ({ r with mInUse := m }.minutes, true) :=
  if_neg h

/-! ### The computation (R69 to R71) -/

theorem Remaining.compute_unmeasured {r : Remaining} (h : r.ks = none ∨ r.ku = none) : r.compute = (r, false) := by
  rcases h with hs | hu
  · simp [Remaining.compute, hs]
  · cases hs : r.ks <;> simp [Remaining.compute, hs, hu]

theorem Remaining.compute_inconclusive {r : Remaining} {ks ku : Measure} (hs : r.ks = some ks) (hu : r.ku = some ku)
    (h : fractionOf ks.normal ku.normal = none) : r.compute = ({ r with last := .inconclusive }, false) := by
  simp [Remaining.compute, hs, hu, h]

theorem Remaining.compute_value {r : Remaining} {ks ku : Measure} {f : Nat} (hs : r.ks = some ks)
    (hu : r.ku = some ku) (h : fractionOf ks.normal ku.normal = some f) :
    r.compute = ({ r with fraction := some f, last := .value }.minutes, true) := by
  simp [Remaining.compute, hs, hu, h]

/-- What a computation can come to: none is made, or it is inconclusive, or it gives VALUE. -/
theorem Remaining.compute_cases (r : Remaining) :
    r.compute = (r, false) ∨ r.compute = ({ r with last := .inconclusive }, false) ∨
      ∃ f, f ≤ 1024 ∧ r.compute = ({ r with fraction := some f, last := .value }.minutes, true) := by
  rcases Option.eq_none_or_eq_some r.ks with hs | ⟨ks, hs⟩
  · exact .inl (compute_unmeasured (.inl hs))
  rcases Option.eq_none_or_eq_some r.ku with hu | ⟨ku, hu⟩
  · exact .inl (compute_unmeasured (.inr hu))
  cases h : fractionOf ks.normal ku.normal with
  | none => exact .inr (.inl (compute_inconclusive hs hu h))
  | some f => exact .inr (.inr ⟨f, fractionOf_le h, compute_value hs hu h⟩)

theorem Remaining.compute_of_true {r : Remaining} (h : r.compute.2 = true) :
    ∃ f, f ≤ 1024 ∧ r.compute = ({ r with fraction := some f, last := .value }.minutes, true) := by
  rcases r.compute_cases with e | e | e
  · simp [e] at h
  · simp [e] at h
  · exact e

theorem Remaining.compute_of_false {r : Remaining} (h : r.compute.2 = false) :
    r.compute.1 = r ∨ r.compute.1 = { r with last := .inconclusive } := by
  rcases r.compute_cases with e | e | ⟨f, -, e⟩
  · exact .inl (by rw [e])
  · exact .inr (by rw [e])
  · simp [e] at h

/-- R70: a computation's fraction is that of As and Au alone. -/
theorem Remaining.compute_fraction_of_true {r : Remaining} {ks ku : Measure} (hs : r.ks = some ks)
    (hu : r.ku = some ku) (h : r.compute.2 = true) :
    ∃ f, fractionOf ks.normal ku.normal = some f ∧ r.compute.1.fraction = some f := by
  cases hf : fractionOf ks.normal ku.normal with
  | none => simp [compute_inconclusive hs hu hf] at h
  | some f => exact ⟨f, rfl, by simp [compute_value hs hu hf]⟩

/-! ### The tape as the scheduler finds it full (R147) -/

/-- R147: with no blocker before it in the order, the full tape is the one left. -/
theorem State.blocker_tapeFull_iff {s : State} (fault : s.transport.mode ≠ .faultHold)
    (empty : s.transport.mode ≠ .empty) (ejecting : s.transport.mode ≠ .ejecting)
    (tab : s.sensors.tabPresent = true) (dew : s.sensors.dew = false) :
    s.blocker = some .tapeFull ↔ s.remaining.fraction = some 0 ∨ s.sensors.endActive = true := by
  have left : s.blocker =
      if s.remaining.fraction = some 0 ∨ s.sensors.endActive then some .tapeFull else none := by
    simp [State.blocker, State.tab, fault, empty, ejecting, tab, dew]
  rw [left, Option.ite_none_right_eq_some]
  exact and_iff_left rfl

/-! ### The statements of chapter 4 -/

/-- Settles O48: the denominator's sign decides between INCONCLUSIVE and VALUE, and the fraction is `fractionOf` of
the normalised measurements. -/
theorem theFractionOfTheTape : Obligations.TheFractionOfTheTape := by
  unfold Obligations.TheFractionOfTheTape
  refine ⟨fun r ks ku hs hu => ?_, fun r q a b c d ha hb hc hd sameAs sameAu value => ?_,
    fun s => State.blocker_tapeFull_iff⟩
  · simp only [← fractionDen_eq, ← fractionNum_eq]
    refine ⟨fun nonpos => Remaining.compute_inconclusive hs hu (fractionOf_of_den_nonpos nonpos), fun pos => ?_⟩
    obtain ⟨f, hf, quotient⟩ := fractionOf_of_den_pos pos
    rw [Remaining.compute_value hs hu hf]
    exact ⟨f, quotient, rfl, rfl, rfl, fractionOf_full hf, fractionOf_empty hf⟩
  · obtain ⟨f, hf, fraction⟩ := Remaining.compute_fraction_of_true ha hb value
    rw [sameAs, sameAu] at hf
    rw [fraction, Remaining.compute_value hc hd hf]
    rfl

/-- Settles O49: each clause reads the minutes off what a computation, or a new length in use, comes to. -/
theorem theMinutesRemaining : Obligations.TheMinutesRemaining := by
  unfold Obligations.TheMinutesRemaining
  refine ⟨fun r value => ?_, fun r noValue => ?_, fun r m changed => ?_, by decide⟩
  · obtain ⟨f, bound, computed⟩ := Remaining.compute_of_true value
    rw [computed]
    refine ⟨f, bound, rfl, fun undeclared => by simp [undeclared], fun declared => ?_⟩
    exact ⟨minutesLeft_declared declared f 1, minutesLeft_declared declared f 2, minutesLeft_declared declared f 3,
      minutes_le_whole bound _ 1, minutes_le_whole bound _ 2, minutes_le_whole bound _ 3⟩
  · rcases Remaining.compute_of_false noValue with same | inconclusive
    · simp [same]
    · simp [inconclusive]
  · rw [Remaining.setLength_changed changed]
    refine ⟨rfl, rfl, rfl, fun unknown => ?_, fun f known declared => ?_⟩
    · rcases unknown with noFraction | undeclared
      · simp [noFraction]
      · simp [undeclared]
    · simp [known, minutesLeft_declared declared]

end Sys2Proof.Machine
end

section
/-! SUPPORT. The outcome code of a close (R164): with nothing recorded, with something recorded, and where the host's
endings agree with end cause HOST; with them the statement O58 of chapter 9. -/
namespace Sys2Proof.Machine

/-! ### The outcome code by end cause (R164) -/

theorem outcomeCode_abandoned (r : RunCopy) : outcomeCode r .abandoned = 17 := rfl

section
variable {r : RunCopy}

/-- R164, order 2. -/
theorem outcomeCode_host_of_unrecorded (nothing : r.segments = 0) : outcomeCode r (.cause .host) = 7 := by
  simp [outcomeCode, nothing]

/-- R164, order 3. -/
theorem outcomeCode_cause_of_unrecorded {e : EndCause} (nothing : r.segments = 0) (notHost : e ≠ .host) :
    outcomeCode r (.cause e) = r.miss.outcome := by
  simp [outcomeCode, nothing, notHost]

/-- R164, orders 4 to 6 and the first half of 7: with something recorded, these end causes alone decide. -/
theorem outcomeCode_cause_of_recorded (recorded : r.segments ≠ 0) :
    outcomeCode r (.cause .tapeEnd) = 3 ∧ outcomeCode r (.cause .host) = 4 ∧
      outcomeCode r (.cause .fault) = 5 ∧ outcomeCode r (.cause .power) = 6 := by
  simp [outcomeCode, recorded]

/-- R164, the second half of order 7 and orders 8 and 9: at an end cause that cuts nothing short, the power gap and
the late minutes decide. -/
theorem outcomeCode_uncut_of_recorded {e : EndCause} (recorded : r.segments ≠ 0)
    (uncut : e = .none ∨ e = .window ∨ e = .labelEnd) :
    outcomeCode r (.cause e) = if r.powerGap then 6 else if r.late ≠ 0 then 2 else 1 := by
  rcases uncut with rfl | rfl | rfl <;> simp [outcomeCode, recorded]

/-! ### The host's endings -/

/-- A host stop (R10, R158) closes with end cause HOST. -/
theorem outcomeCode_hostStop_eq_host : outcomeCode r .hostStop = outcomeCode r (.cause .host) := by
  by_cases nothing : r.segments = 0 <;> simp [outcomeCode, nothing]

/-- R132 and R164 agree on the close of an edit, unless a minute is counted with no segment begun. -/
theorem outcomeCode_edited_eq_host (counted : r.segments = 0 → r.seconds < 60) :
    outcomeCode r .edited = outcomeCode r (.cause .host) := by
  by_cases nothing : r.segments = 0
  · simp [outcomeCode, nothing, counted nothing]
  · simp [outcomeCode, nothing]

end

/-! ### The statement of R164 -/

/-- Settles O58: each clause reads its code off the order of R164 that applies, the host's endings through their
agreement with end cause HOST. -/
theorem outcomeCodes : Obligations.OutcomeCodes := by
  unfold Obligations.OutcomeCodes
  intro r
  refine ⟨outcomeCode_abandoned r, outcomeCode_host_of_unrecorded, fun e nothing notHost => ?missed,
    fun recorded => ?recorded, fun nothing => ?stopped, fun nothing short => ?cancelled, fun recorded => ?edited,
    fun code => ⟨rfl, rfl⟩⟩
  case missed =>
    rw [outcomeCode_cause_of_unrecorded nothing notHost]
    cases r.miss <;> simp [MissCause.outcome]
  case recorded =>
    obtain ⟨tapeEnd, host, fault, power⟩ := outcomeCode_cause_of_recorded recorded
    refine ⟨tapeEnd, host, outcomeCode_hostStop_eq_host.trans host, fault, power, fun e uncut => ?_⟩
    rw [outcomeCode_uncut_of_recorded recorded uncut]
    exact ⟨fun gap => by simp [gap], fun noGap late => by simp [noGap, late.ne'],
      fun noGap onTime => by simp [noGap, onTime]⟩
  case stopped => rw [outcomeCode_hostStop_eq_host, outcomeCode_host_of_unrecorded nothing]
  case cancelled => rw [outcomeCode_edited_eq_host fun _ => short, outcomeCode_host_of_unrecorded nothing]
  case edited =>
    obtain ⟨-, host, -, -⟩ := outcomeCode_cause_of_recorded recorded
    rw [outcomeCode_edited_eq_host fun nothing => absurd nothing recorded, host]

end Sys2Proof.Machine
end

section
/-! SUPPORT. The POST: which slot it takes (R184), so that a request row either passes the slot's request on or is
ignored with cause PORT; the checks of a BLOCK_RESET as a list searched from its front (R189); with them the
statements O22 and O26 of chapter 11. -/
namespace Sys2Proof.Machine

/-! ### The slot that a POST takes (R184) -/

/-- R184: a POST takes slot `n` where it gives its number, the slot reads POSTED and no request is in flight there. -/
theorem State.postSlot_eq_some_iff {s : State} {w : Word} {n : Fin 16} :
    s.postSlot w = some n ↔
      n.val = w.toNat ∧ s.byteNat (Config.slotBase n.val) = 1 ∧ s.requests.slots[n] = none := by
  unfold State.postSlot
  by_cases numbered : w.toNat < 16
  · simp only [dif_pos numbered, Option.ite_none_right_eq_some, Option.some.injEq, Option.isNone_iff_eq_none]
    constructor
    · rintro ⟨⟨posted, idle⟩, rfl⟩
      exact ⟨rfl, posted, idle⟩
    · rintro ⟨number, posted, idle⟩
      obtain rfl : n = ⟨w.toNat, numbered⟩ := Fin.ext number
      exact ⟨⟨posted, idle⟩, rfl⟩
  · have above : n.val ≠ w.toNat := by omega
    simp [numbered, above]

/-- R184: a POST takes no slot where the one it numbers, if any, does not read POSTED or has its request in flight. -/
theorem State.postSlot_eq_none_iff {s : State} {w : Word} :
    s.postSlot w = none ↔ ∀ n : Fin 16, n.val = w.toNat →
      s.byteNat (Config.slotBase n.val) ≠ 1 ∨ s.requests.slots[n].isSome = true := by
  rw [Option.eq_none_iff_forall_ne_some]
  refine forall_congr' fun n => ?_
  rw [ne_eq, State.postSlot_eq_some_iff, not_and, not_and_or, Option.isSome_iff_ne_none]

/-! ### A request row's POST -/

section
variable {c : Instr} {w : Word} {s : State}

/-- R184: a POST that takes no slot is ignored, with cause PORT. -/
theorem exec_ignored (row : c.post? = some w) (takes : s.takesWrites = true)
    (noSlot : (s.posted w).postSlot w = none) :
    exec c s = .next (State.finishPost w (s.posted w) ((s.posted w).raise .port (min 255 w.toNat))) := by
  rw [exec_post row takes, State.takePost, noSlot]

/-- R185: kind 17 is BLOCK_RESET. -/
theorem State.dispatch_blockReset {r : Request} (s : State) (n : Fin 16) (kind : r.kind = 17) :
    s.dispatch n r = s.blockReset n r := by
  simp [State.dispatch, kind]

/-- R184, R189: a POST whose slot asks for a BLOCK_RESET does that, whatever its row. -/
theorem exec_blockReset {n : Fin 16} {r : Request} (row : c.post? = some w) (serves : s.serves w n r)
    (kind : r.kind = 17) :
    exec c s = .next (State.finishPost w (s.posted w) ((s.taken w n r).blockReset n r)) := by
  rw [exec_serves row serves, State.dispatch_blockReset _ n kind]

end

/-! ### The statement of R184 -/

/-- Settles O22: the conditions on the slot decide `postSlot`, and that decides what the row's POST comes to. -/
theorem postsTakeTheirSlot : Obligations.PostsTakeTheirSlot := by
  unfold Obligations.PostsTakeTheirSlot
  intro c w s row takes
  refine ⟨fun unfit => ?ignored, fun n number posted idle => ?passedOn⟩
  case ignored => exact exec_ignored row takes (State.postSlot_eq_none_iff.mpr unfit)
  case passedOn =>
    have slot : (s.posted w).postSlot w = some n := State.postSlot_eq_some_iff.mpr ⟨number, posted, idle⟩
    exact exec_serves row ⟨takes, slot, rfl⟩

/-! ### The checks of a BLOCK_RESET (R189) -/

/-- A list of checks, each with its reason: the first applies, or else the rest decide. -/
theorem firstCheck_cons (applies : Bool) (why : Reason) (rest : List (Bool × Reason)) :
    (((applies, why) :: rest).find? (·.1)).map (·.2)
      = if applies then some why else (rest.find? (·.1)).map (·.2) := by
  cases applies <;> rfl

/-- R189: the set is empty where none of its five bits is 1. -/
theorem Request.names_none_eq (r : Request) :
    (!r.names 0 && !r.names 1 && !r.names 2 && !r.names 3 && !r.names 4) = decide (r.byte 0 % 32 = 0) := by
  rw [Bool.eq_iff_iff]
  simp only [Request.names, Bool.and_eq_true, Bool.not_eq_true', beq_eq_false_iff_ne, decide_eq_true_eq]
  omega

/-- R189: the checks in their order, the empty set first. -/
theorem State.checkReset_eq_firstCheck (s : State) (r : Request) :
    s.checkReset r = (([
      (!r.names 0 && !r.names 1 && !r.names 2 && !r.names 3 && !r.names 4, Reason.badArgument),
      (r.names 0 && s.transport.control.isSome, .timerActive),
      (r.names 0 && s.transport.owner == .manual, .recording),
      (r.names 1 && s.tuner.owner == .record, .recording)] : List (Bool × Reason)).find? (·.1)).map (·.2) := by
  simp only [firstCheck_cons, Request.names_none_eq, decide_eq_true_eq, Bool.and_eq_true, beq_iff_eq,
    List.find?_nil, Option.map_none]
  rfl

/-- R189: a check that applies refuses the whole request; no member is reset. -/
theorem State.blockReset_refused {s : State} {r : Request} {why : Reason} (n : Fin 16)
    (refuses : s.checkReset r = some why) : s.blockReset n r = s.finishSlot n .refused why [] := by
  rw [State.blockReset, refuses]

/-! ### The statement of R189 -/

/-- Settles O26: the order of the checks, the refusal by the first that applies, and the row that brings them about. -/
theorem blockResetChecks : Obligations.BlockResetChecks := by
  unfold Obligations.BlockResetChecks
  intro s n r
  refine ⟨s.checkReset_eq_firstCheck r, fun why => State.blockReset_refused n, ?posted⟩
  case posted =>
    rintro c w s₀ row serves kind rfl
    exact exec_blockReset row serves kind

end Sys2Proof.Machine
end
